-- ==== Sys2Proof/Word.lean ====
section
/-! DEFINITION. The word types of the block (00_scope R7, R8) and the names of sample values (00_scope R11). -/

namespace Sys2Proof

/-- One byte of a payload, a frame or a buffer (R9). -/
abbrev Byte := BitVec 8

/-- A checksum and the CRC register (R27, R100). -/
abbrev Half := BitVec 16

/-- A port word, a configuration register, a counter (R7). -/
abbrev Word := BitVec 32

/-- A data word on the command port, a sample word on a port (R62, R69). -/
abbrev DWord := BitVec 64

/-- A finite byte sequence, index 0 first (R9). -/
abbrev Bytes := List Byte

/-- A value of the parameter type `Num` of R11, held as a NAME: `id` says which value it is.
The operations on names are the uninterpreted constants of `Config`, so nothing can be proved of a value
beyond what holds in every instantiation of R11 (log entry 1). -/
structure NumVal where
  id : Nat
deriving DecidableEq, Repr, Inhabited

end Sys2Proof
end

