-- ==== Sys2Proof/Syntax.lean ====
section
/-! DEFINITION. The eighteen commands of 30_encoding R84, one constructor per row of spec/opcode_table.json. -/

namespace Sys2Proof

/-- A command with its operands. Each operand has the width its field has in the encoding (R81 to R83). -/
inductive Instr where
  /-- NOP (R200) -/
  | nop
  /-- CRC_INIT (R103) -/
  | crcInit
  /-- CRC_BYTE b (R104) -/
  | crcByte (b : Byte)
  /-- CRC_CHECK v (R105) -/
  | crcCheck (v : Half)
  /-- STAT_CLR (R201) -/
  | statClr
  /-- TXP_CLEAR (R122) -/
  | txpClear
  /-- TXP_PUSH b (R123) -/
  | txpPush (b : Byte)
  /-- TXF_CLEAR (R124) -/
  | txfClear
  /-- TXF_PUSH b (R125) -/
  | txfPush (b : Byte)
  /-- TX_FRAME (R126) -/
  | txFrame
  /-- MOD_START (R155) -/
  | modStart
  /-- MOD_SAMPLE (R156) -/
  | modSample
  /-- MOD_STOP (R157) -/
  | modStop
  /-- DM_RESET (R180) -/
  | dmReset
  /-- RX_BYTE b (R142) -/
  | rxByte (b : Byte)
  /-- CFG_COMMIT (R206) -/
  | cfgCommit
  /-- CFG_WR sel, value (R202); legal for sel 0 to 4 -/
  | cfgWr (sel : Byte) (value : Word)
  /-- DM_SAMPLE D (R179) -/
  | dmSample (d : DWord)
deriving DecidableEq, Repr

end Sys2Proof
end

