-- ==== Sys2Proof/WellFormed.lean ====
section
/-! DEFINITION. Which commands have a legal encoding. The operand widths are in the syntax; the one check left is
the selector of CFG_WR (30_encoding R84, R86). -/

namespace Sys2Proof

/-- The selector names a staging register: 0 to 4 (R83, R84). -/
def selectorLegal (sel : Byte) : Bool := decide (sel.toNat ≤ 4)

/-- The command has a legal encoding (R84). -/
def Instr.wf : Instr → Bool
  | .nop => true
  | .crcInit => true
  | .crcByte _ => true
  | .crcCheck _ => true
  | .statClr => true
  | .txpClear => true
  | .txpPush _ => true
  | .txfClear => true
  | .txfPush _ => true
  | .txFrame => true
  | .modStart => true
  | .modSample => true
  | .modStop => true
  | .dmReset => true
  | .rxByte _ => true
  | .cfgCommit => true
  | .cfgWr sel _ => selectorLegal sel
  | .dmSample _ => true

end Sys2Proof
end

