-- ==== Sys2Proof/Decode.lean ====
section
/-! DEFINITION. Cutting the command port into commands (30_encoding R80), the decoder (R85, R86), the encoder
(R81, R82, R84), and the opcode table's numbering of a command's bits. -/

namespace Sys2Proof

/-! ## Fields of a command word (R81, R82) -/

/-- OPC = W[31:24] -/
def opcOf (w : Word) : Byte := w.extractLsb' 24 8
/-- SEL = W[23:16] -/
def selOf (w : Word) : Byte := w.extractLsb' 16 8
/-- W[23:0], which a command without operands keeps at 0 -/
def low24Of (w : Word) : BitVec 24 := w.extractLsb' 0 24
/-- W[23:8], which a command with a byte operand keeps at 0 -/
def aboveByteOf (w : Word) : Half := w.extractLsb' 8 16
/-- W[15:0]: the operand of CRC_CHECK, the IMM of format CD -/
def immOf (w : Word) : Half := w.extractLsb' 0 16
/-- IMML = W[7:0]: the byte operand -/
def immlOf (w : Word) : Byte := w.extractLsb' 0 8
/-- D[63:32] -/
def dataHigh (d : DWord) : Word := d.extractLsb' 32 32
/-- D[31:0] -/
def dataLow (d : DWord) : Word := d.extractLsb' 0 32

/-! ## The decoder -/

/-- Why an encoding is illegal (R86). All three give the one error ILLEGAL (R223). -/
inductive Illegal where
  /-- an opcode that R84 does not list -/
  | unassignedOpcode
  /-- a listed opcode with a zero field that is not zero -/
  | nonzeroField
  /-- CFG_WR with SEL at or above 5 -/
  | badSelector
deriving DecidableEq, Repr

/-- What the decoder reads: one of the eighteen commands, or ILLEGAL with its reason (R85). -/
inductive Decoded where
  | cmd (i : Instr)
  | illegal (why : Illegal)
deriving DecidableEq, Repr

/-- A command without operands: W[23:0] must be 0. -/
def decodePlain (w : Word) (i : Instr) : Decoded :=
  if low24Of w = 0 then .cmd i else .illegal .nonzeroField

/-- A command with a byte operand: W[23:8] must be 0. -/
def decodeByteOp (w : Word) (mk : Byte → Instr) : Decoded :=
  if aboveByteOf w = 0 then .cmd (mk (immlOf w)) else .illegal .nonzeroField

/-- CRC_CHECK: W[23:16] must be 0. -/
def decodeCrcCheck (w : Word) : Decoded :=
  if selOf w = 0 then .cmd (.crcCheck (immOf w)) else .illegal .nonzeroField

/-- CFG_WR: the selector must be legal, W[15:0] and D[63:32] must be 0. -/
def decodeCfgWr (w : Word) (d : DWord) : Decoded :=
  if selectorLegal (selOf w) then
    if immOf w = 0 ∧ dataHigh d = 0 then .cmd (.cfgWr (selOf w) (dataLow d)) else .illegal .nonzeroField
  else .illegal .badSelector

/-- The decoder of R85, total on a command word and its data word (0 where there is none). -/
def decodeWord (w : Word) (d : DWord) : Decoded :=
  match (opcOf w).toNat with
  | 0x00 => decodePlain w .nop
  | 0x01 => decodePlain w .crcInit
  | 0x02 => decodeByteOp w .crcByte
  | 0x03 => decodeCrcCheck w
  | 0x08 => decodePlain w .statClr
  | 0x10 => decodePlain w .txpClear
  | 0x11 => decodeByteOp w .txpPush
  | 0x12 => decodePlain w .txfClear
  | 0x13 => decodeByteOp w .txfPush
  | 0x14 => decodePlain w .txFrame
  | 0x20 => decodePlain w .modStart
  | 0x21 => decodePlain w .modSample
  | 0x22 => decodePlain w .modStop
  | 0x30 => decodePlain w .dmReset
  | 0x31 => decodeByteOp w .rxByte
  | 0x40 => decodePlain w .cfgCommit
  | 0x80 => decodeCfgWr w d
  | 0x81 => decodePlain w (.dmSample d)
  | _ => .illegal .unassignedOpcode

/-! ## Cutting the port into commands -/

/-- W[31] = 1: two data words follow (R80). -/
def carriesData (w : Word) : Bool := w.msb

/-- How many port words a command takes; W[31] alone decides (R80). -/
def commandLength (w : Word) : Nat := if carriesData w then 3 else 1

/-- The first whole command on the port: its word, its data word, and the words behind it. `none` where the
words of a command have not all arrived (R80). D[63:32] comes first (R62). -/
def takeCommand : List Word → Option (Word × DWord × List Word)
  | [] => none
  | w :: rest =>
    if carriesData w then
      match rest with
      | dh :: dl :: rest' => some (w, dh ++ dl, rest')
      | _ => none
    else some (w, 0, rest)

/-- The first whole command on the port, decoded, and the words behind it. -/
def decodePort (port : List Word) : Option (Decoded × List Word) :=
  (takeCommand port).map fun c => (decodeWord c.1 c.2.1, c.2.2)

/-! ## The encoder (R84) -/

/-- `OPC << 24 | operand`. -/
def commandWord (opc : Byte) (operand : BitVec 24) : Word := (opc.setWidth 32 <<< 24) ||| operand.setWidth 32

/-- The port words of a format-CD command: W, D[63:32], D[31:0] (R82). -/
def withData (w : Word) (d : DWord) : List Word := [w, dataHigh d, dataLow d]

/-- The port words of a command. -/
def encode : Instr → List Word
  | .nop => [commandWord 0x00 0]
  | .crcInit => [commandWord 0x01 0]
  | .crcByte b => [commandWord 0x02 (b.setWidth 24)]
  | .crcCheck v => [commandWord 0x03 (v.setWidth 24)]
  | .statClr => [commandWord 0x08 0]
  | .txpClear => [commandWord 0x10 0]
  | .txpPush b => [commandWord 0x11 (b.setWidth 24)]
  | .txfClear => [commandWord 0x12 0]
  | .txfPush b => [commandWord 0x13 (b.setWidth 24)]
  | .txFrame => [commandWord 0x14 0]
  | .modStart => [commandWord 0x20 0]
  | .modSample => [commandWord 0x21 0]
  | .modStop => [commandWord 0x22 0]
  | .dmReset => [commandWord 0x30 0]
  | .rxByte b => [commandWord 0x31 (b.setWidth 24)]
  | .cfgCommit => [commandWord 0x40 0]
  | .cfgWr sel value => withData (commandWord 0x80 (sel.setWidth 24 <<< 16)) (value.setWidth 64)
  | .dmSample d => withData (commandWord 0x81 0) d

/-! ## The opcode table's numbering: the first port word is bits 31..0, the second bits 63..32, the third bits 95..64 -/

/-- The port words of the command whose lowest `nbits` bits are those of `w`, all bits above being 0. -/
def tableWords (nbits w : Nat) : List Word :=
  let v := w % 2 ^ nbits
  let first := BitVec.ofNat 32 v
  if carriesData first then [first, BitVec.ofNat 32 (v / 2 ^ 32), BitVec.ofNat 32 (v / 2 ^ 64)] else [first]

/-- The command the decoder reads from those words. -/
def decodeTableWord (nbits w : Nat) : Option Instr :=
  match decodePort (tableWords nbits w) with
  | some (.cmd i, _) => some i
  | _ => none

end Sys2Proof
end

