-- ==== Sys2Proof/Config.lean ====
section
/-! DEFINITION. The constants the spec fixes (00_scope R6, R7; 10_state R21) and the parameters it leaves
open (R11 `num`, R7 TXF_CAP), which stand here as uninterpreted constants. -/

namespace Sys2Proof

/-- The parameter record `num` of R11 over a value type `α`. The machine runs with `α = NumVal` and
`Config.num`; the reference instantiations of D7 are in Machine/Reference.lean. -/
structure NumOps (α : Type) where
  /-- NZERO -/
  nzero : α
  nadd : α → α → α
  nsub : α → α → α
  nmul : α → α → α
  ngt : α → α → Bool
  /-- `num.coeff(f, sr)` -/
  coeff : Word → Word → α
  /-- `num.tone(amp, f, n, sr)` -/
  tone : Word → Word → Word → Word → α
  /-- the sample a port word carries -/
  decode : DWord → α
  /-- the port word that carries a sample -/
  encode : α → DWord

namespace Config

/-- The frame marker 0x7E (R6). -/
def marker : Byte := 0x7E#8

/-- TXP_CAP = MAX_PAYLOAD = 65535 (R6, R7). -/
def txpCap : Nat := 65535

/-- RXBUF_CAP = 65540 (R7). -/
def rxbufCap : Nat := 65540

/-- PREAMBLE_LEN = 64 (R6). -/
def preambleLen : Nat := 64

/-- The preamble read as a 64-bit word, first bit most significant (R151). -/
def preambleWord : DWord := 0x5555555555555555#64

/-- The block identification value (R21). -/
def ident : Word := 0x574E0001#32

/-- How far TXF_CAP lies above its least legal value 65540: any of the values R7 admits (U3). DESIGN CHOICE,
safe: left open as the spec leaves it (log entry 3). -/
opaque txfCapAbove : Fin 536805364

/-- TXF_CAP: `65540 <= TXF_CAP <= 536870903` (R7, D20), and nothing more is known of it. -/
def txfCap : Nat := txfCapAbove.val + 65540

/-- `nadd` of the parameter `num` (R11, U2). Uninterpreted (log entry 1). -/
opaque nadd : NumVal → NumVal → NumVal
/-- `nsub` of the parameter `num` (R11, U2). Uninterpreted (log entry 1). -/
opaque nsub : NumVal → NumVal → NumVal
/-- `nmul` of the parameter `num` (R11, U2). Uninterpreted (log entry 1). -/
opaque nmul : NumVal → NumVal → NumVal
/-- `ngt` of the parameter `num` (R11, U2). Uninterpreted (log entry 1). -/
opaque ngt : NumVal → NumVal → Bool
/-- `num.coeff` (R11, U1). Uninterpreted (log entry 1). -/
opaque coeff : Word → Word → NumVal
/-- `num.tone` (R11, U1). Uninterpreted (log entry 1). -/
opaque tone : Word → Word → Word → Word → NumVal
/-- `num.decode` (R11, R69, U2). Uninterpreted (log entry 1). -/
opaque decode : DWord → NumVal
/-- `num.encode` (R11, R69, U2). Uninterpreted (log entry 1). -/
opaque encode : NumVal → DWord

/-- The parameter record the machine runs with (R11). NZERO is the value named 0: which name it bears is a
matter of naming only (log entry 2). -/
def num : NumOps NumVal where
  nzero := ⟨0⟩
  nadd := nadd
  nsub := nsub
  nmul := nmul
  ngt := ngt
  coeff := coeff
  tone := tone
  decode := decode
  encode := encode

/-- The byte TXBIT reads where R150 does not define it (an index at or past the end of the transmission, in
states no run reaches): a free value (log entry 4). -/
opaque byteBeyond : Nat → Byte

end Config
end Sys2Proof
end

