-- ==== Sys2Proof/Machine/State.lean ====
section
/-! DEFINITION. The architectural state of the block (10_state R20 to R46), the observation kept beside it
(00_scope R14), what stands at its inputs, the reset values (R44), and the reasons a step can stop. -/

namespace Sys2Proof.Machine

/-- A configuration tuple: five 32-bit registers (R22, R23). -/
structure Cfg where
  /-- sample rate, samples per second -/
  sr : Word
  /-- symbol rate, symbols per second -/
  sym : Word
  /-- tone for bit 0, Hz -/
  f0 : Word
  /-- tone for bit 1, Hz -/
  f1 : Word
  /-- amplitude, in units of 1/65536 -/
  amp : Word
deriving DecidableEq, Repr

/-- The error codes of R221. Codes 7 to 15 are reserved and never raised, so no constructor stands for them (U4). -/
inductive ErrCode where
  | illegal
  | payloadTooLarge
  | invalidConfig
  | txOverflow
  | busy
  | modIdle
deriving DecidableEq, Repr

/-- The outcome of one command (R220). -/
inductive CmdOutcome where
  | ok
  | err (e : ErrCode)
deriving DecidableEq, Repr

/-- The whole state: the record of R46, the output streams of R14, and the block's two inputs. -/
structure State where
  /-- command-port words written and not yet taken, oldest first (R62; the model's own field, log entry 5) -/
  port : List Word
  /-- the reset input is asserted (R250; the model's own field, log entry 7) -/
  resetIn : Bool
  /-- CFGS[0..4] (R22) -/
  cfgs : Cfg
  /-- SR, SYM, F0, F1, AMP (R23) -/
  act : Cfg
  /-- SPS (R24) -/
  sps : Word
  /-- CFG_VALID (R25) -/
  cfgValid : Bool
  /-- COEFF0 (R26) -/
  coeff0 : NumVal
  /-- COEFF1 (R26) -/
  coeff1 : NumVal
  /-- CRC (R27) -/
  crc : Half
  /-- CRC_OK (R28) -/
  crcOk : Bool
  /-- TXP (R29) -/
  txp : Bytes
  /-- TXP_OVF (R30) -/
  txpOvf : Bool
  /-- TXF (R31) -/
  txf : Bytes
  /-- MOD_ACTIVE (R32) -/
  modActive : Bool
  /-- MOD_DONE (R32) -/
  modDone : Bool
  /-- MOD_BIT (R33) -/
  modBit : Word
  /-- MOD_N (R33) -/
  modN : Word
  /-- MOD_TOTAL (R33) -/
  modTotal : Word
  /-- TXS_COUNT (R34) -/
  txsCount : Word
  /-- Q1_0 (R35) -/
  q10 : NumVal
  /-- Q2_0 (R35) -/
  q20 : NumVal
  /-- Q1_1 (R35) -/
  q11 : NumVal
  /-- Q2_1 (R35) -/
  q21 : NumVal
  /-- DM_N (R35) -/
  dmN : Word
  /-- SYNC_LOCKED: false is SEEKING_SYNC, true is LOCKED (R36) -/
  syncLocked : Bool
  /-- SYNC_SR, the newest bit in bit 0 (R36) -/
  syncSr : DWord
  /-- BP_ACC (R37) -/
  bpAcc : Byte
  /-- BP_CNT (R37) -/
  bpCnt : BitVec 3
  /-- RXBUF (R38) -/
  rxbuf : Bytes
  /-- RXM_COUNT (R39) -/
  rxmCount : Word
  /-- ERR (R40) -/
  err : BitVec 4
  /-- the TXS stream: the sample words emitted, in order (R14, R69, R78) -/
  txs : List DWord
  /-- the RXM stream: the payloads emitted, in order (R14, R78) -/
  rxm : List Bytes
  /-- the OUT stream: one outcome per command, in order (R14, R220) -/
  out : List CmdOutcome
deriving DecidableEq, Repr

/-- Why a step faults. There is no constructor: no behaviour of this block is a fault (R241), so no one raises
one, which is safe (log entry 10). -/
inductive Fault where
deriving DecidableEq, Repr

/-- Why a step is refused. -/
inductive Refusal where
  /-- An instruction with no meaning yet, named by its mnemonic: raised by `exec` alone, and by no arm of it
  now. Safe: the machine stops. -/
  | notModelled (mnemonic : String)
deriving DecidableEq, Repr

/-- Five registers that read 0. -/
def Cfg.zero : Cfg := { sr := 0#32, sym := 0#32, f0 := 0#32, f1 := 0#32, amp := 0#32 }

/-- The machine right after power-on reset: R44 for the state, empty output streams, nothing on the port and
the reset input released (log entries 5, 7). -/
def State.reset : State where
  port := []
  resetIn := false
  cfgs := Cfg.zero
  act := Cfg.zero
  sps := 0#32
  cfgValid := false
  coeff0 := Config.num.nzero
  coeff1 := Config.num.nzero
  crc := 0xFFFF#16
  crcOk := false
  txp := []
  txpOvf := false
  txf := []
  modActive := false
  modDone := false
  modBit := 0#32
  modN := 0#32
  modTotal := 0#32
  txsCount := 0#32
  q10 := Config.num.nzero
  q20 := Config.num.nzero
  q11 := Config.num.nzero
  q21 := Config.num.nzero
  dmN := 0#32
  syncLocked := false
  syncSr := 0#64
  bpAcc := 0#8
  bpCnt := 0#3
  rxbuf := []
  rxmCount := 0#32
  err := 0#4
  txs := []
  rxm := []
  out := []

end Sys2Proof.Machine
end

