-- ==== Sys2Proof/Machine/Operands.lean ====
section
/-! DEFINITION. How the operands of a command reach state (30_encoding R83): the selector of CFG_WR names a
staging register (10_state R22), the data word of DM_SAMPLE carries a sample (20_memory R69). The byte and 16-bit
operands are whole fields of the command word and need nothing more. -/

namespace Sys2Proof.Machine

/-- CFGS[k], for the selector values R84 lists; no register bears another number. -/
def cfgsRead (k : Nat) (c : Cfg) : Option Word :=
  match k with
  | 0 => some c.sr
  | 1 => some c.sym
  | 2 => some c.f0
  | 3 => some c.f1
  | 4 => some c.amp
  | _ => none

/-- CFGS[k] <- value, for the selector values R84 lists. -/
def cfgsWrite (k : Nat) (value : Word) (c : Cfg) : Option Cfg :=
  match k with
  | 0 => some { c with sr := value }
  | 1 => some { c with sym := value }
  | 2 => some { c with f0 := value }
  | 3 => some { c with f1 := value }
  | 4 => some { c with amp := value }
  | _ => none

/-- The sample a data word carries: `num.decode(D)`, with no range check (R69, R83, D30). -/
def sampleOperand (num : NumOps NumVal) (d : DWord) : NumVal := num.decode d

end Sys2Proof.Machine
end

