-- ==== Sys2Proof/Machine/Flags.lean ====
section
/-! DEFINITION. The flags as a host sees them: the STATUS view (10_state R41), the BP view (R42), and the two
comparisons that write a flag or a bit, CRC_OK (40_crc R105) and the symbol slicer (43_demodulator R173). -/

namespace Sys2Proof.Machine

/-- A one-bit field at bit `position` of a register. -/
def statusBit (position : Nat) (b : Bool) : Word := (BitVec.ofBool b).setWidth 32 <<< position

/-- STATUS (R41). Bits 7:6 and 31:12 are reserved and read 0. -/
def statusWord (s : State) : Word :=
  statusBit 0 s.cfgValid ||| statusBit 1 s.modActive ||| statusBit 2 s.modDone ||| statusBit 3 s.syncLocked
    ||| statusBit 4 s.crcOk ||| statusBit 5 s.txpOvf ||| (s.err.setWidth 32 <<< 8)

/-- BP (R42): BP_ACC in bits 7:0, BP_CNT in bits 10:8, the rest 0. -/
def bpWord (s : State) : Word := (s.bpCnt.setWidth 32 <<< 8) ||| s.bpAcc.setWidth 32

/-- What CRC_CHECK writes into CRC_OK (R105). -/
def crcMatches (crc v : Half) : Bool := crc == v

/-- SLICE(P0, P1): bit 1 exactly where P1 > P0, so a tie gives 0 (R173). -/
def slice {α : Type} (num : NumOps α) (p0 p1 : α) : Bool := num.ngt p1 p0

end Sys2Proof.Machine
end

