-- ==== Sys2Proof/Machine/Ops.lean ====
section
/-! DEFINITION. The shared operations: how a command ends (60_exceptions R220 to R222), the acknowledgement of an
error (R233), the two output streams (00_scope R10), what a host does to the block, and hardware reset (R250). -/

namespace Sys2Proof.Machine

/-- One step's answer over the model's own types. -/
abbrev Result := Host.Outcome State Fault Refusal

/-- The code of an error (R221). -/
def ErrCode.code : ErrCode → BitVec 4
  | .illegal => 1#4
  | .payloadTooLarge => 2#4
  | .invalidConfig => 3#4
  | .txOverflow => 4#4
  | .busy => 5#4
  | .modIdle => 6#4

/-- Append one outcome to OUT (R220). -/
def appendOutcome (o : CmdOutcome) (s : State) : State := { s with out := s.out ++ [o] }

/-- A command that did what its rule says: outcome `ok` (R220). -/
def complete (s : State) : Result := .next (appendOutcome .ok s)

/-- The state RAISE leaves (R222): ERR keeps the first code, OUT gets this one, nothing else changes. -/
def raised (e : ErrCode) (s : State) : State :=
  appendOutcome (.err e) { s with err := if s.err = 0#4 then e.code else s.err }

/-- RAISE(E), the one error mechanism of the block (R222). There is no trap and no return from one (R232, R233):
the command ends here and the next one runs normally. -/
def raise (e : ErrCode) (s : State) : Result := .next (raised e s)

/-- The acknowledgement of a recorded error: ERR and MOD_DONE are cleared (R201, R233). -/
def acknowledge (s : State) : State := { s with err := 0#4, modDone := false }

/-- `emit TXS(s)` and the count of it: TXS carries the sample's port word (R34, R69, R156). -/
def emitSample (num : NumOps NumVal) (x : NumVal) (s : State) : State :=
  { s with txs := s.txs ++ [num.encode x], txsCount := s.txsCount + 1#32 }

/-- `emit RXM(m)` for each message in order, RXM_COUNT counting them modulo 2^32 (R39, R139). -/
def emitMessages (msgs : List Bytes) (s : State) : State :=
  { s with rxm := s.rxm ++ msgs, rxmCount := s.rxmCount + BitVec.ofNat 32 msgs.length }

/-- The port after the words of a command have been taken. -/
def setPort (ws : List Word) (s : State) : State := { s with port := ws }

/-- The host writes words to the command port (R12, R62). -/
def hostWrite (ws : List Word) (s : State) : State := setPort (s.port ++ ws) s

/-- Hardware reset between two commands (R250): every piece of state takes its reset value (R44); the output
streams keep their entries; no outcome is produced. The words the host has on the port stay there, and the input
is released, the event being over (log entry 7). -/
def hardwareReset (s : State) : State :=
  { State.reset with port := s.port, txs := s.txs, rxm := s.rxm, out := s.out }

end Sys2Proof.Machine
end

