-- ==== Sys2Proof/Machine/Crc.lean ====
section
/-! DEFINITION. The CRC-16 function and the commands of the CRC unit (40_crc R100 to R106). -/

namespace Sys2Proof.Machine

/-- One bit of the loop of R100: shift right, XOR 0xA001 where a 1 went out. -/
def crcShift (c : Half) : Half := if c.getLsbD 0 then (c >>> 1) ^^^ 0xA001#16 else c >>> 1

/-- `crcShift` k times. -/
def crcShifts : Nat → Half → Half
  | 0, c => c
  | k + 1, c => crcShifts k (crcShift c)

/-- crc_step (R100): one byte, least-significant bit first (R68). -/
def crcStep (c : Half) (b : Byte) : Half := crcShifts 8 (c ^^^ b.setWidth 16)

/-- The register after a byte sequence, from any start value (R102). -/
def crcFrom (c : Half) (bs : Bytes) : Half := bs.foldl crcStep c

/-- CRC16 (R100): initial value 0xFFFF, no final XOR. -/
def crc16 (bs : Bytes) : Half := crcFrom 0xFFFF#16 bs

/-- FrameValid (R106): the trailing bytes, high byte first, are the payload's checksum. -/
def frameValid (p : Bytes) (hi lo : Byte) : Bool := crc16 p == hi ++ lo

/-- CRC_INIT (R103). -/
def execCrcInit (s : State) : Result := complete { s with crc := 0xFFFF#16 }

/-- CRC_BYTE b (R104). -/
def execCrcByte (b : Byte) (s : State) : Result := complete { s with crc := crcStep s.crc b }

/-- CRC_CHECK v (R105). A mismatch is no error. -/
def execCrcCheck (v : Half) (s : State) : Result := complete { s with crcOk := crcMatches s.crc v }

end Sys2Proof.Machine
end

