-- ==== Sys2Proof/Machine/Framer.lean ====
section
/-! DEFINITION. The frame generator and the TX framer commands (41_framing R120 to R127). -/

namespace Sys2Proof.Machine

/-- Bits 15:8 of a 16-bit field (R67). -/
def highByte (v : Half) : Byte := v.extractLsb' 8 8

/-- Bits 7:0 of a 16-bit field (R67). -/
def lowByte (v : Half) : Byte := v.extractLsb' 0 8

/-- FRAME(p) (R121): marker, big-endian length, payload, big-endian checksum of the payload alone. R121 defines
it for at most 65535 bytes, and TXP never holds more (log entry 11). -/
def frame (p : Bytes) : Bytes :=
  let len := BitVec.ofNat 16 p.length
  let crc := crc16 p
  [Config.marker, highByte len, lowByte len] ++ p ++ [highByte crc, lowByte crc]

/-- A frame buffer of `n` bytes is full: `n = TXF_CAP` (R125). No buffer below the least legal TXF_CAP is, whatever
TXF_CAP is, and that is looked at first so that the test evaluates there (`txfFull_iff`). -/
def txfFull (n : Nat) : Bool := decide (65540 ≤ n) && decide (n = Config.txfCap)

/-- `n` bytes do not fit the frame buffer: `n > TXF_CAP` (R126), tested as in `txfFull` (`txfOverflows_iff`). -/
def txfOverflows (n : Nat) : Bool := decide (65540 < n) && decide (Config.txfCap < n)

/-- TXP_CLEAR (R122). -/
def execTxpClear (s : State) : Result := complete { s with txp := [], txpOvf := false }

/-- TXP_PUSH b (R123): a full TXP discards the byte and records it in TXP_OVF. -/
def execTxpPush (b : Byte) (s : State) : Result :=
  if s.txp.length = Config.txpCap then complete { s with txpOvf := true }
  else complete { s with txp := s.txp ++ [b] }

/-- TXF_CLEAR (R124, R127). -/
def execTxfClear (s : State) : Result :=
  if s.modActive then raise .busy s
  else complete { s with txf := [] }

/-- TXF_PUSH b (R125, R127). -/
def execTxfPush (b : Byte) (s : State) : Result :=
  if s.modActive then raise .busy s
  else if txfFull s.txf.length then raise .txOverflow s
  else complete { s with txf := s.txf ++ [b] }

/-- TX_FRAME (R126): the checks in the order R230 gives them. -/
def execTxFrame (s : State) : Result :=
  if s.modActive then raise .busy s
  else if s.txpOvf then raise .payloadTooLarge s
  else if txfOverflows (s.txf.length + (frame s.txp).length) then raise .txOverflow s
  else complete { s with txf := s.txf ++ frame s.txp }

end Sys2Proof.Machine
end

