-- ==== Sys2Proof/Machine/Scanner.lean ====
section
/-! DEFINITION. The frame scanner and marker detector, the receive-side byte sink, and RX_BYTE (41_framing R135 to
R142). -/

namespace Sys2Proof.Machine

/-- The buffer from its first marker on; what stands before it is garbage and is dropped (R136 step 1). -/
def fromMarker (buf : Bytes) : Bytes := buf.dropWhile (· != Config.marker)

/-- What SCAN decides at a marker (R136 steps 2 to 5). -/
inductive Candidate where
  /-- steps 2 and 3: the frame is not all here, stop with the remainder from the marker on -/
  | incomplete
  /-- step 4: the payload, and the bytes behind the frame -/
  | valid (payload rest : Bytes)
  /-- step 5: a false marker -/
  | falseMarker
deriving DecidableEq, Repr

/-- The decision at a marker whose following bytes are `tail` (R137): the length field is its first two bytes,
big-endian; payload and checksum follow. -/
def candidate (tail : Bytes) : Candidate :=
  match tail with
  | hi :: lo :: body =>
    let len := (hi ++ lo : Half).toNat
    if body.length < len + 2 then .incomplete
    else if frameValid (body.take len) (body.getD len 0) (body.getD (len + 1) 0) then
      .valid (body.take len) (body.drop (len + 2))
    else .falseMarker
  | _ => .incomplete

/-- The loop of SCAN (R137), on the bytes not yet passed, for at most the given number of passes. The bytes from
index i on stand for the index i of R137 (log entry 14). -/
def scanLoop : Nat → Bytes → List Bytes × Bytes
  | 0, buf => ([], buf)
  | passes + 1, buf =>
    match fromMarker buf with
    | [] => ([], [])
    | marker :: tail =>
      match candidate tail with
      | .incomplete => ([], marker :: tail)
      | .valid payload rest =>
        let later := scanLoop passes rest
        (payload :: later.1, later.2)
      | .falseMarker => scanLoop passes tail

/-- SCAN(buf): the messages and the remainder (R137). It ends within len(buf) + 1 passes (R138). -/
def scan (buf : Bytes) : List Bytes × Bytes := scanLoop (buf.length + 1) buf

/-- RX_APPEND(b) (R139): SCAN over RXBUF with the byte appended. -/
def rxAppend (b : Byte) (s : State) : State :=
  let found := scan (s.rxbuf ++ [b])
  emitMessages found.1 { s with rxbuf := found.2 }

/-- RX_BYTE b (R142). -/
def execRxByte (b : Byte) (s : State) : Result := complete (rxAppend b s)

end Sys2Proof.Machine
end

