-- ==== Sys2Proof/Machine/Demodulator.lean ====
section
/-! DEFINITION. The BFSK demodulator: tone-energy detectors, symbol slicer, preamble synchronizer, packer, and its
commands (43_demodulator R170 to R180). -/

namespace Sys2Proof.Machine

/-- GSTEP (R171): `((c*q1) - q2) + x`. -/
def gstep {α : Type} (num : NumOps α) (c q1 q2 x : α) : α := num.nadd (num.nsub (num.nmul c q1) q2) x

/-- POWER (R172): `((q1*q1) + (q2*q2)) - ((c*q1)*q2)`. -/
def power {α : Type} (num : NumOps α) (c q1 q2 : α) : α :=
  num.nsub (num.nadd (num.nmul q1 q1) (num.nmul q2 q2)) (num.nmul (num.nmul c q1) q2)

/-- A detector's pair (q1, q2) after a run of samples, from the zero state every window starts in (R171). -/
def goertzel {α : Type} (num : NumOps α) (c : α) (xs : List α) : α × α :=
  xs.foldl (fun q x => (gstep num c q.1 q.2 x, q.1)) (num.nzero, num.nzero)

/-- The power of one buffered window of samples at one tone: the source's way of saying R172 (R174). -/
def windowPower {α : Type} (num : NumOps α) (c : α) (xs : List α) : α :=
  power num c (goertzel num c xs).1 (goertzel num c xs).2

/-- The bit of one buffered window of samples (R173, R174). -/
def windowBit {α : Type} (num : NumOps α) (c0 c1 : α) (xs : List α) : Bool :=
  slice num (windowPower num c0 xs) (windowPower num c1 xs)

/-- Both detectors take a sample, each pair assigned at once (R171, R179). -/
def detectorStep (num : NumOps NumVal) (x : NumVal) (s : State) : State :=
  { s with
    q10 := gstep num s.coeff0 s.q10 s.q20 x, q20 := s.q10
    q11 := gstep num s.coeff1 s.q11 s.q21 x, q21 := s.q11 }

/-- The bit the slicer reads off the detectors (R172, R173). -/
def slicedBit (num : NumOps NumVal) (s : State) : Bool :=
  slice num (power num s.coeff0 s.q10 s.q20) (power num s.coeff1 s.q11 s.q21)

/-- The detectors and the window counter start a new window (R175). -/
def clearWindow (num : NumOps NumVal) (s : State) : State :=
  { s with q10 := num.nzero, q20 := num.nzero, q11 := num.nzero, q21 := num.nzero, dmN := 0#32 }

/-- PACK_BIT(bit) (R177): the first bit of a byte ends up in bit 7. -/
def packBit (bit : Bool) (s : State) : State :=
  let acc := (s.bpAcc <<< 1) ||| (BitVec.ofBool bit).setWidth 8
  if s.bpCnt = 7#3 then rxAppend acc { s with bpAcc := 0#8, bpCnt := 0#3 }
  else { s with bpAcc := acc, bpCnt := s.bpCnt + 1#3 }

/-- SYNC_BIT(bit) (R176): the 64-bit correlator while seeking, the packer once locked. -/
def syncBit (bit : Bool) (s : State) : State :=
  if s.syncLocked then packBit bit s
  else
    let sr := (s.syncSr <<< 1) ||| (BitVec.ofBool bit).setWidth 64
    if sr = Config.preambleWord then { s with syncSr := sr, syncLocked := true, bpAcc := 0#8, bpCnt := 0#3 }
    else { s with syncSr := sr }

/-- One received sample under a configuration (R179 after its check): the window counter advances, or the window
closes and its bit goes to the synchronizer (R175). -/
def takeSample (num : NumOps NumVal) (x : NumVal) (s : State) : State :=
  let t := detectorStep num x s
  if t.dmN.toNat + 1 < t.sps.toNat then { t with dmN := t.dmN + 1#32 }
  else syncBit (slicedBit num t) (clearWindow num t)

/-- The body of DM_RESET (R180): the receiver back to SEEKING_SYNC with nothing collected. -/
def clearReceiver (num : NumOps NumVal) (s : State) : State :=
  { clearWindow num s with syncLocked := false, syncSr := 0#64, bpAcc := 0#8, bpCnt := 0#3, rxbuf := [] }

/-- DM_SAMPLE D (R179). Any data word is taken, with no range check (R229 (g)). -/
def execDmSample (d : DWord) (s : State) : Result :=
  if s.cfgValid then complete (takeSample Config.num (sampleOperand Config.num d) s)
  else raise .invalidConfig s

/-- DM_RESET (R180). -/
def execDmReset (s : State) : Result := complete (clearReceiver Config.num s)

end Sys2Proof.Machine
end

