-- ==== Sys2Proof/Machine/Control.lean ====
section
/-! DEFINITION. Housekeeping and configuration commands (44_control R200 to R206). -/

namespace Sys2Proof.Machine

/-- SPSOF(sr, sym) (R205): samples per symbol, exact halves rounded up, in natural arithmetic. VALID asks for
sym >= 1 first, so the quotient by zero is never used (R204). -/
def spsOf (sr sym : Word) : Nat := (2 * sr.toNat + sym.toNat) / (2 * sym.toNat)

/-- VALID(sr, sym, f0, f1, amp) (R204). -/
def cfgLegal (c : Cfg) : Bool :=
  decide (1 ≤ c.sr.toNat) && decide (1 ≤ c.sym.toNat) && (c.f0 != c.f1) && decide (1 ≤ spsOf c.sr c.sym)
    && decide (c.amp.toNat ≤ 65536)

/-- What a successful CFG_COMMIT of the tuple `c` leaves (R206). -/
def activate (num : NumOps NumVal) (c : Cfg) (s : State) : State :=
  clearReceiver num { s with
    act := c, sps := BitVec.ofNat 32 (spsOf c.sr c.sym)
    coeff0 := num.coeff c.f0 c.sr, coeff1 := num.coeff c.f1 c.sr
    cfgValid := true, modActive := false }

/-- NOP (R200). -/
def execNop (s : State) : Result := complete s

/-- STAT_CLR (R201). -/
def execStatClr (s : State) : Result := complete (acknowledge s)

/-- CFG_WR sel, value (R202): any value is staged; a selector that names no register is ILLEGAL. -/
def execCfgWr (sel : Byte) (value : Word) (s : State) : Result :=
  match cfgsWrite sel.toNat value s.cfgs with
  | some c => complete { s with cfgs := c }
  | none => raise .illegal s

/-- CFG_COMMIT (R206): a failed commit changes nothing but ERR. -/
def execCfgCommit (s : State) : Result :=
  if cfgLegal s.cfgs then complete (activate Config.num s.cfgs s) else raise .invalidConfig s

end Sys2Proof.Machine
end

