-- ==== Sys2Proof/Machine/Modulator.lean ====
section
/-! DEFINITION. The BFSK modulator: the transmitted bits, the tone multiplexer, the sample counter and its commands
(42_modulator R150 to R157). -/

namespace Sys2Proof.Machine

/-- Byte j of the frame buffer. Past its end TXBIT is not defined (R150), and the byte is a free value
(log entry 4). -/
def txfByte (txf : Bytes) (j : Nat) : Byte := txf.getD j (Config.byteBeyond j)

/-- TXBIT(TXF, i) (R150): the preamble 0,1,0,1,... (R151), then the bytes most-significant bit first (R68). -/
def txBit (txf : Bytes) (i : Nat) : Bool :=
  if i < Config.preambleLen then i % 2 == 1
  else
    let k := i - Config.preambleLen
    (txfByte txf (k / 8)).getLsbD (7 - k % 8)

/-- The number of symbols of a transmission of TXF: 64 + 8·len(TXF) (R33, R150). -/
def txBitCount (txf : Bytes) : Nat := Config.preambleLen + 8 * txf.length

/-- The tone multiplexer (R152): F1 for bit 1, F0 for bit 0. -/
def toneOf (c : Cfg) (bit : Bool) : Word := if bit then c.f1 else c.f0

/-- Sample n of a symbol (R153). -/
def symbolSample {α : Type} (num : NumOps α) (c : Cfg) (bit : Bool) (n : Word) : α :=
  num.tone c.amp (toneOf c bit) n c.sr

/-- The samples of one symbol of `sps` samples (R153). -/
def symbolSamples {α : Type} (num : NumOps α) (c : Cfg) (sps : Nat) (bit : Bool) : List α :=
  (List.range sps).map fun n => symbolSample num c bit (BitVec.ofNat 32 n)

/-- The bits of a transmission, in order (R150). -/
def txBits (txf : Bytes) : List Bool := (List.range (txBitCount txf)).map (txBit txf)

/-- ENCODE(TXF) (R154): the samples of a whole transmission. -/
def encodeSamples {α : Type} (num : NumOps α) (c : Cfg) (sps : Nat) (txf : Bytes) : List α :=
  (txBits txf).flatMap (symbolSamples num c sps)

/-- The counters after one more sample (R156): MOD_N runs through a symbol, then MOD_BIT advances; at MOD_TOTAL
the transmission is over. -/
def advanceModulator (s : State) : State :=
  let t :=
    if s.modN.toNat + 1 < s.sps.toNat then { s with modN := s.modN + 1#32 }
    else { s with modN := 0#32, modBit := s.modBit + 1#32 }
  if t.modBit = t.modTotal then { t with modActive := false, modDone := true } else t

/-- The sample due next (R156): the tone multiplexer at bit MOD_BIT, sample MOD_N. -/
def dueSample (num : NumOps NumVal) (s : State) : NumVal :=
  symbolSample num s.act (txBit s.txf s.modBit.toNat) s.modN

/-- MOD_START (R155). -/
def execModStart (s : State) : Result :=
  if s.cfgValid then
    complete { s with
      modBit := 0#32, modN := 0#32, modTotal := BitVec.ofNat 32 (txBitCount s.txf), modActive := true, modDone := false }
  else raise .invalidConfig s

/-- MOD_SAMPLE (R156). -/
def execModSample (s : State) : Result :=
  if s.modActive then complete (advanceModulator (emitSample Config.num (dueSample Config.num s) s))
  else raise .modIdle s

/-- MOD_STOP (R157). -/
def execModStop (s : State) : Result := complete { s with modActive := false }

end Sys2Proof.Machine
end

