-- ==== Sys2Proof/Machine/Dispatch.lean ====
section
/-! DEFINITION. One arm per command, each one direct call of its meaning (30_encoding R84). -/

namespace Sys2Proof.Machine

def exec (i : Instr) (s : State) : Host.Outcome State Fault Refusal :=
  match i with
  | .nop => Sys2Proof.Machine.execNop s
  | .crcInit => Sys2Proof.Machine.execCrcInit s
  | .crcByte b => Sys2Proof.Machine.execCrcByte b s
  | .crcCheck v => Sys2Proof.Machine.execCrcCheck v s
  | .statClr => Sys2Proof.Machine.execStatClr s
  | .txpClear => Sys2Proof.Machine.execTxpClear s
  | .txpPush b => Sys2Proof.Machine.execTxpPush b s
  | .txfClear => Sys2Proof.Machine.execTxfClear s
  | .txfPush b => Sys2Proof.Machine.execTxfPush b s
  | .txFrame => Sys2Proof.Machine.execTxFrame s
  | .modStart => Sys2Proof.Machine.execModStart s
  | .modSample => Sys2Proof.Machine.execModSample s
  | .modStop => Sys2Proof.Machine.execModStop s
  | .dmReset => Sys2Proof.Machine.execDmReset s
  | .rxByte b => Sys2Proof.Machine.execRxByte b s
  | .cfgCommit => Sys2Proof.Machine.execCfgCommit s
  | .cfgWr sel value => Sys2Proof.Machine.execCfgWr sel value s
  | .dmSample d => Sys2Proof.Machine.execDmSample d s

end Sys2Proof.Machine
end

