-- ==== Sys2Proof/Machine/Step.lean ====
section
/-! DEFINITION. One step of the block (00_scope R12, 30_encoding R80, 60_exceptions R223). -/

namespace Sys2Proof.Machine

/-- One step. An asserted reset input is a hardware reset (R250). Otherwise the first whole command on the port
is taken and executed (R12); an illegal one is taken with all its words and raises ILLEGAL (R86, R223); with no
whole command on the port the block waits and nothing changes (R12, R80; log entry 6). -/
def step (s : State) : Host.Outcome State Fault Refusal :=
  if s.resetIn then .next (hardwareReset s)
  else
    match decodePort s.port with
    | none => .next s
    | some (.cmd i, rest) => exec i (setPort rest s)
    | some (.illegal _, rest) => raise .illegal (setPort rest s)

/-- The command of the opcode table's word `w`, written ahead of what the port holds, so that the next step takes
it (log entry 5). A pending reset is withdrawn: it would be the next step. -/
def State.withFetchWord (s : State) (nbits w : Nat) : State :=
  { s with port := tableWords nbits w ++ s.port, resetIn := false }

end Sys2Proof.Machine
end

