-- ==== Sys2Proof/Machine/Assembly.lean ====
section
/-! DEFINITION. The written form of commands (30_encoding R88) and the pseudo-commands (R89). Neither is part of what
the block executes: a line becomes a list of commands, whose words the host writes to the port (log entry 15). -/

namespace Sys2Proof.Machine

/-! ## Pseudo-commands (R89) -/

/-- `CRC_OF b1, ..., bn` -/
def crcOf (bs : Bytes) : List Instr := .crcInit :: bs.map .crcByte
/-- `TXP_LOAD b1, ..., bn` -/
def txpLoad (bs : Bytes) : List Instr := .txpClear :: bs.map .txpPush
/-- `RX_BYTES b1, ..., bn` -/
def rxBytes (bs : Bytes) : List Instr := bs.map .rxByte
/-- `CONFIG sr, sym, f0, f1, amp` -/
def configure (sr sym f0 f1 amp : Word) : List Instr :=
  [.cfgWr 0 sr, .cfgWr 1 sym, .cfgWr 2 f0, .cfgWr 3 f1, .cfgWr 4 amp, .cfgCommit]
/-- `SEND` -/
def send : List Instr := [.txfClear, .txFrame, .modStart]
/-- `MOD_RUN n` -/
def modRun (n : Nat) : List Instr := List.replicate n .modSample
/-- `DM_FEED s1, ..., sn`, the source's `feed(chunk)` (R181) -/
def dmFeed (ds : List DWord) : List Instr := ds.map .dmSample

/-- The port words of a command list. -/
def assembleWords (is : List Instr) : List Word := is.flatMap encode

/-! ## Lines (R88) -/

/-- What a line is made of: mnemonics, numbers and selector names are bare words. -/
inductive Token where
  | bare (cs : List Char)
  | char (c : Char)
  | text (cs : List Char)
  | comma
deriving DecidableEq, Repr

/-- Where the lexer stands in a line. Collected characters are newest first. -/
inductive LexMode where
  | between
  | inBare (rev : List Char)
  | charOpen
  | charClose (c : Char)
  | inText (rev : List Char)
  | comment
  | failed
deriving DecidableEq, Repr

/-- One character outside any token. -/
def lexFresh (c : Char) (toks : List Token) : LexMode × List Token :=
  if c = ' ' ∨ c = '\t' then (.between, toks)
  else if c = ',' then (.between, toks ++ [.comma])
  else if c = ';' then (.comment, toks)
  else if c = '\'' then (.charOpen, toks)
  else if c = '"' then (.inText [], toks)
  else (.inBare [c], toks)

/-- One character. -/
def lexStep (st : LexMode × List Token) (c : Char) : LexMode × List Token :=
  match st.1 with
  | .between => lexFresh c st.2
  | .inBare rev =>
    if c = ' ' ∨ c = '\t' ∨ c = ',' ∨ c = ';' then lexFresh c (st.2 ++ [.bare rev.reverse])
    else (.inBare (c :: rev), st.2)
  | .charOpen => (.charClose c, st.2)
  | .charClose ch => if c = '\'' then (.between, st.2 ++ [.char ch]) else (.failed, st.2)
  | .inText rev => if c = '"' then (.between, st.2 ++ [.text rev.reverse]) else (.inText (c :: rev), st.2)
  | .comment => (.comment, st.2)
  | .failed => (.failed, st.2)

/-- The tokens of a line. -/
def lexLine (line : List Char) : Option (List Token) :=
  let st := line.foldl lexStep (.between, [])
  match st.1 with
  | .between => some st.2
  | .comment => some st.2
  | .inBare rev => some (st.2 ++ [.bare rev.reverse])
  | _ => none

/-- The operands of a line: single tokens between commas. -/
def operandsOf : List Token → Option (List Token)
  | [] => some []
  | [t] => if t = .comma then none else some [t]
  | t :: .comma :: u :: rest => if t = .comma then none else (operandsOf (u :: rest)).map (t :: ·)
  | _ => none

/-- The value of one digit in a base up to 16. -/
def digitValue (base : Nat) (c : Char) : Option Nat :=
  let n := c.toNat
  let v :=
    if 48 ≤ n ∧ n ≤ 57 then n - 48
    else if 97 ≤ n ∧ n ≤ 102 then n - 87
    else if 65 ≤ n ∧ n ≤ 70 then n - 55
    else 16
  if v < base then some v else none

/-- A nonempty digit string. -/
def digits (base : Nat) (cs : List Char) : Option Nat :=
  match cs with
  | [] => none
  | _ => cs.foldl (fun acc c => acc.bind fun a => (digitValue base c).map fun v => a * base + v) (some 0)

/-- A number, decimal or `0x` hexadecimal. -/
def numberOf : Token → Option Nat
  | .bare ('0' :: 'x' :: cs) => digits 16 cs
  | .bare cs => digits 10 cs
  | _ => none

/-- The ASCII code of a character. -/
def asciiOf (c : Char) : Option Byte := if c.toNat < 128 then some (BitVec.ofNat 8 c.toNat) else none

/-- A number below 2^w. -/
def widthOf (w : Nat) (t : Token) : Option (BitVec w) :=
  (numberOf t).bind fun n => if n < 2 ^ w then some (BitVec.ofNat w n) else none

/-- A byte operand: a number to 255 or a character literal. -/
def byteOf : Token → Option Byte
  | .char c => asciiOf c
  | t => widthOf 8 t

/-- A selector operand of CFG_WR: a name or a number to 4. -/
def selectorOf : Token → Option Byte
  | .bare ['S', 'R'] => some 0
  | .bare ['S', 'Y', 'M'] => some 1
  | .bare ['F', '0'] => some 2
  | .bare ['F', '1'] => some 3
  | .bare ['A', 'M', 'P'] => some 4
  | t => (widthOf 8 t).filter selectorLegal

/-- A sample operand: `0x` and 16 hex digits, or a decimal number converted by `ofDecimal`, which is the host
assembler's `num.encode` and stays an argument (R88). -/
def sampleOf (ofDecimal : List Char → Option DWord) : Token → Option DWord
  | .bare ('0' :: 'x' :: cs) => if cs.length = 16 then (digits 16 cs).map (BitVec.ofNat 64) else none
  | .bare cs => ofDecimal cs
  | _ => none

/-- The commands of one line: a command, or a pseudo-command expanded. -/
def assembleCommand (ofDecimal : List Char → Option DWord) (mnemonic : String) (ops : List Token) :
    Option (List Instr) :=
  match mnemonic, ops with
  | "NOP", [] => some [.nop]
  | "CRC_INIT", [] => some [.crcInit]
  | "CRC_BYTE", [b] => (byteOf b).map fun v => [.crcByte v]
  | "CRC_CHECK", [v] => (widthOf 16 v).map fun v => [.crcCheck v]
  | "STAT_CLR", [] => some [.statClr]
  | "TXP_CLEAR", [] => some [.txpClear]
  | "TXP_PUSH", [b] => (byteOf b).map fun v => [.txpPush v]
  | "TXF_CLEAR", [] => some [.txfClear]
  | "TXF_PUSH", [b] => (byteOf b).map fun v => [.txfPush v]
  | "TX_FRAME", [] => some [.txFrame]
  | "MOD_START", [] => some [.modStart]
  | "MOD_SAMPLE", [] => some [.modSample]
  | "MOD_STOP", [] => some [.modStop]
  | "DM_RESET", [] => some [.dmReset]
  | "RX_BYTE", [b] => (byteOf b).map fun v => [.rxByte v]
  | "CFG_COMMIT", [] => some [.cfgCommit]
  | "CFG_WR", [sel, v] => (selectorOf sel).bind fun k => (widthOf 32 v).map fun v => [.cfgWr k v]
  | "DM_SAMPLE", [s] => (sampleOf ofDecimal s).map fun d => [.dmSample d]
  | "CRC_OF", bs => (bs.mapM byteOf).map crcOf
  | "TXP_LOAD", bs => (bs.mapM byteOf).map txpLoad
  | "TXP_STR", [.text cs] => (cs.mapM asciiOf).map txpLoad
  | "RX_BYTES", bs => (bs.mapM byteOf).map rxBytes
  | "CONFIG", [sr, sym, f0, f1, amp] =>
    (widthOf 32 sr).bind fun sr => (widthOf 32 sym).bind fun sym => (widthOf 32 f0).bind fun f0 =>
      (widthOf 32 f1).bind fun f1 => (widthOf 32 amp).map fun amp => configure sr sym f0 f1 amp
  | "SEND", [] => some send
  | "MOD_RUN", [n] => (numberOf n).map modRun
  | "DM_FEED", ss => (ss.mapM (sampleOf ofDecimal)).map dmFeed
  | _, _ => none

/-- The commands of a line; a blank line or a comment gives none. -/
def assembleLine (ofDecimal : List Char → Option DWord) (line : List Char) : Option (List Instr) :=
  match lexLine line with
  | some (.bare m :: rest) => (operandsOf rest).bind (assembleCommand ofDecimal (String.ofList m))
  | some [] => some []
  | _ => none

end Sys2Proof.Machine
end

