-- ==== Sys2Proof/Machine/ReadPort.lean ====
section
/-! DEFINITION. The read port (20_memory R63 to R66) and its order behind the command port (R70). A read is a function
of the state, so it changes nothing. -/

namespace Sys2Proof.Machine

/-- The register at word index `k`, that is at byte offset 4·k (R64). Indexes with no register read 0 (R65). -/
def readWord (k : Nat) (s : State) : Word :=
  match k with
  | 0x00 => Config.ident
  | 0x01 => statusWord s
  | 0x02 => s.crc.setWidth 32
  | 0x03 => BitVec.ofNat 32 s.txp.length
  | 0x04 => BitVec.ofNat 32 s.txf.length
  | 0x05 => BitVec.ofNat 32 s.rxbuf.length
  | 0x06 => s.sps
  | 0x07 => s.modBit
  | 0x08 => s.modN
  | 0x09 => s.modTotal
  | 0x0A => s.dmN
  | 0x0B => bpWord s
  | 0x0C => s.syncSr.extractLsb' 0 32
  | 0x0D => s.syncSr.extractLsb' 32 32
  | 0x0E => s.rxmCount
  | 0x0F => s.txsCount
  | 0x18 => s.act.sr
  | 0x19 => s.act.sym
  | 0x1A => s.act.f0
  | 0x1B => s.act.f1
  | 0x1C => s.act.amp
  | k => if 0x10 ≤ k then (cfgsRead (k - 0x10) s.cfgs).getD 0 else 0

/-- The register at byte offset A of the state as it stands: A[1:0] are ignored (R63). -/
def registerAt (a : BitVec 7) (s : State) : Word := readWord (a.toNat / 4) s

/-- At most the given number of steps. -/
def settleFor : Nat → State → State
  | 0, s => s
  | steps + 1, s =>
    match step s with
    | .next t => settleFor steps t
    | _ => s

/-- The state once the block has done all it has been given: an asserted reset, then every whole command on the port.
A command takes at least one word and a reset none, so one step more than there are words is enough (log entry 17). -/
def settle (s : State) : State := settleFor (s.port.length + 1) s

/-- A read access at byte offset A (R63), ordered behind the command port: it returns the register's value in the state
after every command written before it has completed, and no later one can have started (R70, R260, D35). -/
def readPort (a : BitVec 7) (s : State) : Word := registerAt a (settle s)

end Sys2Proof.Machine
end

