-- ==== Sys2Proof/Machine/Reference.lean ====
section
/-! DEFINITION. The two reference instantiations of the parameter `num` (00_scope R11, 92 D7, D39): exact reals, and
IEEE 754 binary64 with the stated evaluation order over a library's sin and cos. The machine runs with neither: it
runs with the uninterpreted `Config.num`. Statements and tests about an instantiation use these. -/

namespace Sys2Proof.Machine

/-! ## Exact reals -/

/-- The exact-real instantiation (D7). The spec fixes no port encoding of a real, so `decode` and `encode` stay
arguments (log entry 13). -/
noncomputable def exactReal (decode : DWord → ℝ) (encode : ℝ → DWord) : NumOps ℝ where
  nzero := 0
  nadd := fun a b => a + b
  nsub := fun a b => a - b
  nmul := fun a b => a * b
  ngt := fun a b => @decide (b < a) (Classical.propDecidable _)
  coeff := fun f sr => 2 * Real.cos (2 * Real.pi * f.toNat / sr.toNat)
  tone := fun amp f n sr => (amp.toNat / 65536) * Real.sin (2 * Real.pi * f.toNat * n.toNat / sr.toNat)
  decode := decode
  encode := encode

/-! ## Binary64. A value is its bit pattern: sign 63, exponent 62:52, fraction 51:0 (R69, K5). Finite magnitudes are
counted in units of 2^-1074, so every finite pattern is a natural number of units and rounding is one function. -/

/-- The sin and cos of the implementation's library (U1): not assumed correctly rounded. -/
structure LibM where
  sin : DWord → DWord
  cos : DWord → DWord

/-- The quiet NaN every invalid operation gives here; IEEE 754 leaves its payload open (log entry 12). -/
def f64NaN : DWord := 0x7FF8000000000000#64

/-- Bits 62:0 of the infinities. -/
def f64InfBits : Nat := 0x7FF0000000000000

/-- The bits of the magnitude. -/
def f64MagBits (w : DWord) : Nat := w.toNat % 2 ^ 63

def f64IsNaN (w : DWord) : Bool := decide (f64InfBits < f64MagBits w)

def f64IsInf (w : DWord) : Bool := f64MagBits w == f64InfBits

def f64IsZero (w : DWord) : Bool := f64MagBits w == 0

/-- A sign and the bits of a magnitude. -/
def f64Pack (sign : Bool) (mag : Nat) : DWord := BitVec.ofNat 64 ((if sign then 2 ^ 63 else 0) + mag)

/-- A finite magnitude in units of 2^-1074. -/
def f64Units (w : DWord) : Nat :=
  let e := f64MagBits w / 2 ^ 52
  let f := f64MagBits w % 2 ^ 52
  if e = 0 then f else (2 ^ 52 + f) * 2 ^ (e - 1)

/-- The magnitude nearest to `n / d` units, ties to even, as bits; past the greatest finite one, infinity. -/
def f64Round (n d : Nat) : Nat :=
  let shift := Nat.log2 (n / d) - 52
  let unit := d * 2 ^ shift
  let down := n / unit
  let twice := 2 * (n % unit)
  let m := if unit < twice || (twice == unit && down % 2 == 1) then down + 1 else down
  min (shift * 2 ^ 52 + m) f64InfBits

/-- Addition, rounded to nearest even; a zero sum of opposite signs is +0. -/
def f64Add (a b : DWord) : DWord :=
  if f64IsNaN a || f64IsNaN b then f64NaN
  else if f64IsInf a then (if f64IsInf b && (a.msb != b.msb) then f64NaN else a)
  else if f64IsInf b then b
  else
    let x := f64Units a
    let y := f64Units b
    if a.msb == b.msb then f64Pack a.msb (f64Round (x + y) 1)
    else if x == y then f64Pack false 0
    else if y < x then f64Pack a.msb (f64Round (x - y) 1)
    else f64Pack b.msb (f64Round (y - x) 1)

/-- The opposite sign. -/
def f64Neg (a : DWord) : DWord := f64Pack (!a.msb) (f64MagBits a)

def f64Sub (a b : DWord) : DWord := if f64IsNaN a || f64IsNaN b then f64NaN else f64Add a (f64Neg b)

def f64Mul (a b : DWord) : DWord :=
  let sign := a.msb != b.msb
  if f64IsNaN a || f64IsNaN b then f64NaN
  else if f64IsInf a || f64IsInf b then
    (if f64IsZero a || f64IsZero b then f64NaN else f64Pack sign f64InfBits)
  else f64Pack sign (f64Round (f64Units a * f64Units b) (2 ^ 1074))

def f64Div (a b : DWord) : DWord :=
  let sign := a.msb != b.msb
  if f64IsNaN a || f64IsNaN b then f64NaN
  else if f64IsInf a then (if f64IsInf b then f64NaN else f64Pack sign f64InfBits)
  else if f64IsInf b then f64Pack sign 0
  else if f64IsZero b then (if f64IsZero a then f64NaN else f64Pack sign f64InfBits)
  else f64Pack sign (f64Round (f64Units a * 2 ^ 1074) (f64Units b))

/-- `a > b`; every comparison with a NaN is false (R173, K4). -/
def f64Gt (a b : DWord) : Bool :=
  if f64IsNaN a || f64IsNaN b then false
  else if f64IsZero a && f64IsZero b then false
  else
    match a.msb, b.msb with
    | false, false => decide (f64MagBits b < f64MagBits a)
    | false, true => true
    | true, false => false
    | true, true => decide (f64MagBits a < f64MagBits b)

/-- The binary64 pattern of a 32-bit unsigned integer, which is exact. -/
def f64OfWord (v : Word) : DWord := f64Pack false (f64Round (v.toNat * 2 ^ 1074) 1)

/-- The binary64 numbers nearest to π, 2 and 65536. -/
def f64Pi : DWord := 0x400921FB54442D18#64
def f64Two : DWord := 0x4000000000000000#64
def f64Full : DWord := 0x40F0000000000000#64

/-- The binary64 instantiation (D7, D39): `coeff = 2*cos(((2*π)*f)/SR)` and `tone = A*sin(((2*π)*f*n)/SR)` with
`A = AMP/65536`, evaluated from left to right. -/
def binary64 (lib : LibM) : NumOps DWord where
  nzero := 0
  nadd := f64Add
  nsub := f64Sub
  nmul := f64Mul
  ngt := f64Gt
  coeff := fun f sr => f64Mul f64Two (lib.cos (f64Div (f64Mul (f64Mul f64Two f64Pi) (f64OfWord f)) (f64OfWord sr)))
  tone := fun amp f n sr =>
    f64Mul (f64Div (f64OfWord amp) f64Full)
      (lib.sin (f64Div (f64Mul (f64Mul (f64Mul f64Two f64Pi) (f64OfWord f)) (f64OfWord n)) (f64OfWord sr)))
  decode := fun d => d
  encode := fun x => x

/-- An instantiation over 64-bit patterns as one over names: the name of a pattern is its number. The machine's
operations, which take the record as an argument, can then run with it. -/
def byName (ops : NumOps DWord) : NumOps NumVal :=
  let val : NumVal → DWord := fun x => BitVec.ofNat 64 x.id
  let name : DWord → NumVal := fun w => ⟨w.toNat⟩
  { nzero := name ops.nzero
    nadd := fun a b => name (ops.nadd (val a) (val b))
    nsub := fun a b => name (ops.nsub (val a) (val b))
    nmul := fun a b => name (ops.nmul (val a) (val b))
    ngt := fun a b => ops.ngt (val a) (val b)
    coeff := fun f sr => name (ops.coeff f sr)
    tone := fun amp f n sr => name (ops.tone amp f n sr)
    decode := fun d => name (ops.decode d)
    encode := fun x => ops.encode (val x) }

end Sys2Proof.Machine
end

