-- ==== Sys2Proof/Safety.lean ====
section
/-! DEFINITION. What a consistent state is (10_state R43, with the capacities and derived registers of R23 to R40),
and what it is for a step to advance (60_exceptions R241). -/

namespace Sys2Proof.Machine

/-- The remainder form of R140: empty, or a marker with a frame that is not all there. -/
def remainderForm (r : Bytes) : Bool :=
  match r with
  | [] => true
  | [m] => m == Config.marker
  | [m, _] => m == Config.marker
  | m :: hi :: lo :: body => m == Config.marker && decide (body.length < (hi ++ lo : Half).toNat + 2)

/-- The receiver without a configuration: nothing detected, nothing synchronized, nothing packed (R43 (c)). -/
def receiverIdle (s : State) : Prop :=
  s.dmN = 0 ∧ s.q10 = Config.num.nzero ∧ s.q20 = Config.num.nzero ∧ s.q11 = Config.num.nzero
    ∧ s.q21 = Config.num.nzero ∧ s.syncLocked = false ∧ s.syncSr = 0 ∧ s.bpAcc = 0 ∧ s.bpCnt = 0

/-- The invariant of R43, clause by clause, and the capacities and derived values that R23, R24, R26, R29, R31,
R140 and U4 state beside it. States without it are reached by no run (log entry 16). -/
structure State.Inv (s : State) : Prop where
  /-- R43 (a) -/
  active_configured : s.modActive = true → s.cfgValid = true
  /-- R43 (a) -/
  active_bit : s.modActive = true → s.modBit.toNat < s.modTotal.toNat
  /-- R43 (a) -/
  active_sample : s.modActive = true → s.modN.toNat < s.sps.toNat
  /-- R43 (a) -/
  active_total : s.modActive = true → s.modTotal.toNat = 64 + 8 * s.txf.length
  /-- R43 (b) -/
  window_open : s.cfgValid = true → s.dmN.toNat < s.sps.toNat
  /-- R43 (c) -/
  unconfigured_idle : s.cfgValid = false → receiverIdle s
  /-- R43 (d) -/
  packer_bound : s.bpAcc.toNat < 2 ^ s.bpCnt.toNat
  /-- R43 (e) -/
  seeking_packs_nothing : s.syncLocked = false → s.bpCnt = 0 ∧ s.bpAcc = 0
  /-- R43 (f) -/
  rxbuf_marker : s.rxbuf = [] ∨ s.rxbuf.head? = some Config.marker
  /-- R43 (f) -/
  rxbuf_length : s.rxbuf.length ≤ 65539
  /-- R43 (g) -/
  done_inactive : s.modDone = true → s.modActive = false
  /-- R140 -/
  rxbuf_remainder : remainderForm s.rxbuf = true
  /-- R29 -/
  txp_capacity : s.txp.length ≤ Config.txpCap
  /-- R31 -/
  txf_capacity : s.txf.length ≤ Config.txfCap
  /-- R23: the active configuration is legal once there is one -/
  configured_legal : s.cfgValid = true → cfgLegal s.act = true
  /-- R24 -/
  configured_sps : s.cfgValid = true → s.sps.toNat = spsOf s.act.sr s.act.sym
  /-- R26 -/
  configured_coeffs : s.cfgValid = true →
    s.coeff0 = Config.num.coeff s.act.f0 s.act.sr ∧ s.coeff1 = Config.num.coeff s.act.f1 s.act.sr
  /-- R40, R221 -/
  err_code : s.err.toNat ≤ 6

/-- The commands of a list executed one after another, in order (R73). -/
def execAll : List Instr → State → Result
  | [], s => .next s
  | i :: is, s =>
    match exec i s with
    | .next t => execAll is t
    | .fault r => .fault r
    | .refused r => .refused r

/-- The bits of a byte, most-significant first (R68). -/
def bitsMsb (b : Byte) : List Bool := (List.range 8).map fun k => b.getLsbD (7 - k)

/-- Bits given to the synchronizer one after another (R176). -/
def feedBits (bits : List Bool) (s : State) : State := bits.foldl (fun t bit => syncBit bit t) s

/-- Samples given to the receiver one after another, under the numerics `num` (R179, R181). -/
def feedSamples (num : NumOps NumVal) (xs : List NumVal) (s : State) : State :=
  xs.foldl (fun t x => takeSample num x t) s

/-- A step is safe when it answers a next state: the only thing a step of this block does (R241). -/
def Advances (s : State) : Prop := ∃ t, step s = .next t

end Sys2Proof.Machine
end

