-- ==== Sys2Proof/Certificates/Slice0/Obligations.lean ====
section
/-! DEFINITION. The statements for the provers, file by file of spec/. A result statement gives the whole next state,
so it is the instruction's frame as well: what its record update does not name is unchanged. -/

open Sys2Proof Sys2Proof.Machine

/-! ## 30_encoding -/

/-- R80, R84, R85: the decoder reads back every well-formed command, whatever follows it on the port. -/
def Obligations.DecodeEncodeRoundTrip : Prop :=
  ∀ (i : Instr) (rest : List Word), i.wf = true → decodePort (encode i ++ rest) = some (.cmd i, rest)

/-- R84, R85: the words the decoder reads a command from are that command's encoding, and the command is
well-formed; so each encoding has one meaning. -/
def Obligations.DecodedWordsAreTheEncoding : Prop :=
  ∀ (port : List Word) (i : Instr) (rest : List Word),
    decodePort port = some (.cmd i, rest) → i.wf = true ∧ port = encode i ++ rest

/-- R86: which encodings are illegal, in terms of the words' numbers: an opcode R84 does not list, a listed one with
a nonzero zero field, or CFG_WR with SEL >= 5. The three kinds of zero field are those of R84. -/
def Obligations.IllegalEncodingsExactly : Prop :=
  ∀ (w : Word) (d : DWord),
    (∃ e, decodeWord w d = .illegal e) ↔
      (w.toNat / 2 ^ 24 ∉ [0x00, 0x01, 0x02, 0x03, 0x08, 0x10, 0x11, 0x12, 0x13, 0x14, 0x20, 0x21, 0x22, 0x30, 0x31,
          0x40, 0x80, 0x81]
        ∨ (w.toNat / 2 ^ 24 ∈ [0x00, 0x01, 0x08, 0x10, 0x12, 0x14, 0x20, 0x21, 0x22, 0x30, 0x40, 0x81]
            ∧ w.toNat % 2 ^ 24 ≠ 0)
        ∨ (w.toNat / 2 ^ 24 ∈ [0x02, 0x11, 0x13, 0x31] ∧ w.toNat % 2 ^ 24 / 2 ^ 8 ≠ 0)
        ∨ (w.toNat / 2 ^ 24 = 0x03 ∧ w.toNat % 2 ^ 24 / 2 ^ 16 ≠ 0)
        ∨ (w.toNat / 2 ^ 24 = 0x80
            ∧ (5 ≤ w.toNat % 2 ^ 24 / 2 ^ 16 ∨ w.toNat % 2 ^ 16 ≠ 0 ∨ d.toNat / 2 ^ 32 ≠ 0)))

/-- R86, R223: an illegal command is taken with all its words, raises ILLEGAL, and changes nothing else. -/
def Obligations.IllegalCommandRaises : Prop :=
  ∀ (s : State) (w : Word) (d : DWord) (rest : List Word) (e : Illegal),
    s.resetIn = false → takeCommand s.port = some (w, d, rest) → decodeWord w d = .illegal e →
      step s = .next { s with
        port := rest, err := if s.err = 0 then 1 else s.err, out := s.out ++ [.err .illegal] }

/-- R80: W[31] alone decides the length, one word or three; a command whose words have not all arrived waits, and
the step changes nothing. That a waiting step answers the same state is the model's choice (log entry 6). -/
def Obligations.CommandsAreCutByBit31 : Prop :=
  ∀ (w dh dl : Word) (rest : List Word),
    (w.getLsbD 31 = false → takeCommand (w :: rest) = some (w, 0, rest))
    ∧ (w.getLsbD 31 = true → takeCommand (w :: dh :: dl :: rest) = some (w, dh ++ dl, rest)
        ∧ ∀ s : State, s.resetIn = false → s.port = [w] ∨ s.port = [w, dh] → step s = .next s)
    ∧ ∀ s : State, s.resetIn = false → s.port = [] → step s = .next s

/-- R90: the encoding examples, read by the decoder and written by the encoder. -/
def Obligations.EncodingExamplesDecode : Prop :=
  (encode .nop = [0x00000000] ∧ decodePort [0x00000000] = some (.cmd .nop, []))
  ∧ (encode .crcInit = [0x01000000] ∧ decodePort [0x01000000] = some (.cmd .crcInit, []))
  ∧ (encode (.crcByte 0x7E) = [0x0200007E] ∧ decodePort [0x0200007E] = some (.cmd (.crcByte 0x7E), []))
  ∧ (encode (.crcCheck 0x4B37) = [0x03004B37] ∧ decodePort [0x03004B37] = some (.cmd (.crcCheck 0x4B37), []))
  ∧ (encode .txFrame = [0x14000000] ∧ decodePort [0x14000000] = some (.cmd .txFrame, []))
  ∧ (encode (.rxByte 0x7E) = [0x3100007E] ∧ decodePort [0x3100007E] = some (.cmd (.rxByte 0x7E), []))
  ∧ (encode (.cfgWr 3 2400) = [0x80030000, 0x00000000, 0x00000960]
      ∧ decodePort [0x80030000, 0x00000000, 0x00000960] = some (.cmd (.cfgWr 3 2400), []))
  ∧ (encode (.dmSample 0x3FE0000000000000) = [0x81000000, 0x3FE00000, 0x00000000]
      ∧ decodePort [0x81000000, 0x3FE00000, 0x00000000] = some (.cmd (.dmSample 0x3FE0000000000000), []))
  ∧ decodePort [0x02000141] = some (.illegal .nonzeroField, [])
  ∧ decodePort [0x80050000, 0, 0] = some (.illegal .badSelector, [])
  ∧ decodePort [0xFF000000, 0, 0] = some (.illegal .unassignedOpcode, [])
  ∧ decodePort [0xFF000000] = none ∧ decodePort [0xFF000000, 0] = none

/-- R12: when a whole well-formed command stands first on the port, a step takes its words and is `exec` of it. -/
def Obligations.StepRunsDecodedCommand : Prop :=
  ∀ (s : State) (i : Instr) (rest : List Word),
    s.resetIn = false → i.wf = true → s.port = encode i ++ rest → step s = exec i { s with port := rest }

/-- R12, R73: a run of the machine over the encodings of a list of well-formed commands executes them in order, one
a step, and leaves the words behind them on the port. -/
def Obligations.RunExecutesCommandsInOrder : Prop :=
  ∀ (is : List Instr) (s : State) (rest : List Word),
    s.resetIn = false → (∀ i ∈ is, i.wf = true) → s.port = assembleWords is ++ rest →
      Sys2Proof.core.run is.length s = execAll is { s with port := rest }

/-! ## 60_exceptions -/

/-- R241: every step from every state answers a next state: no fault, no refusal, no stuck state. -/
def Obligations.EveryStepAdvances : Prop := ∀ s : State, Advances s

/-- R220: a command produces exactly one outcome, appended to OUT, whether it is legal or not. -/
def Obligations.OneOutcomePerCommand : Prop :=
  ∀ (s : State) (r : Decoded) (rest : List Word),
    s.resetIn = false → decodePort s.port = some (r, rest) →
      ∃ t o, step s = .next t ∧ t.port = rest ∧ t.out = s.out ++ [o]

/-- R222: an erroring command keeps the first code in ERR, appends its own to OUT, and changes nothing else; nothing
is emitted to TXS or RXM. -/
def Obligations.ErrorChangesOnlyErr : Prop :=
  ∀ (i : Instr) (s t : State) (e : ErrCode),
    exec i s = .next t → t.out = s.out ++ [.err e] →
      t = { s with err := if s.err = 0 then e.code else s.err, out := s.out ++ [.err e] }

/-- R221: the codes, and for every error exactly which command raises it and why. ILLEGAL is raised by no well-formed
command. -/
def Obligations.ErrorsAreRaisedAsListed : Prop :=
  (ErrCode.illegal.code = 1 ∧ ErrCode.payloadTooLarge.code = 2 ∧ ErrCode.invalidConfig.code = 3
    ∧ ErrCode.txOverflow.code = 4 ∧ ErrCode.busy.code = 5 ∧ ErrCode.modIdle.code = 6)
  ∧ ∀ (i : Instr) (s : State) (e : ErrCode), i.wf = true →
      (exec i s = raise e s ↔
        match e with
        | .illegal => False
        | .payloadTooLarge => i = .txFrame ∧ s.modActive = false ∧ s.txpOvf = true
        | .invalidConfig =>
          (i = .cfgCommit ∧ cfgLegal s.cfgs = false)
            ∨ ((i = .modStart ∨ ∃ d, i = .dmSample d) ∧ s.cfgValid = false)
        | .txOverflow =>
          s.modActive = false
            ∧ ((∃ b, i = .txfPush b ∧ s.txf.length = Config.txfCap)
              ∨ (i = .txFrame ∧ s.txpOvf = false ∧ Config.txfCap < s.txf.length + s.txp.length + 5))
        | .busy => (i = .txfClear ∨ (∃ b, i = .txfPush b) ∨ i = .txFrame) ∧ s.modActive = true
        | .modIdle => i = .modSample ∧ s.modActive = false)

/-- R14, R250: the output streams are append-only, through resets too. -/
def Obligations.OutputStreamsOnlyGrow : Prop :=
  ∀ s t : State, step s = .next t →
    (∃ xs, t.txs = s.txs ++ xs) ∧ (∃ ms, t.rxm = s.rxm ++ ms) ∧ ∃ os, t.out = s.out ++ os

/-! ## 10_state -/

/-- R43, with the capacities and derived values of R23, R24, R26, R29, R31 and R140: every step keeps them. -/
def Obligations.StepKeepsInvariant : Prop := ∀ s t : State, s.Inv → step s = .next t → t.Inv

/-- R43, R44: the reset state satisfies the invariant. -/
def Obligations.ResetSatisfiesInvariant : Prop := State.reset.Inv

/-- R44: every reset value the table gives, ID among them. -/
def Obligations.ResetValues : Prop :=
  readPort 0x00 State.reset = 0x574E0001
  ∧ State.reset.cfgs = { sr := 0, sym := 0, f0 := 0, f1 := 0, amp := 0 }
  ∧ State.reset.act = { sr := 0, sym := 0, f0 := 0, f1 := 0, amp := 0 }
  ∧ State.reset.sps = 0 ∧ State.reset.cfgValid = false
  ∧ State.reset.coeff0 = Config.num.nzero ∧ State.reset.coeff1 = Config.num.nzero
  ∧ State.reset.crc = 0xFFFF ∧ State.reset.crcOk = false
  ∧ State.reset.txp = [] ∧ State.reset.txpOvf = false ∧ State.reset.txf = []
  ∧ State.reset.modActive = false ∧ State.reset.modDone = false
  ∧ State.reset.modBit = 0 ∧ State.reset.modN = 0 ∧ State.reset.modTotal = 0 ∧ State.reset.txsCount = 0
  ∧ State.reset.q10 = Config.num.nzero ∧ State.reset.q20 = Config.num.nzero
  ∧ State.reset.q11 = Config.num.nzero ∧ State.reset.q21 = Config.num.nzero
  ∧ State.reset.dmN = 0 ∧ State.reset.syncLocked = false ∧ State.reset.syncSr = 0
  ∧ State.reset.bpAcc = 0 ∧ State.reset.bpCnt = 0
  ∧ State.reset.rxbuf = [] ∧ State.reset.rxmCount = 0 ∧ State.reset.err = 0

/-- R250: the reset input gives every piece of state its reset value, no outcome, and keeps the output streams. That
the words on the port stay and the input is released is the model's choice (log entry 7). -/
def Obligations.HardwareResetKeepsOutputs : Prop :=
  ∀ s : State, s.resetIn = true →
    step s = .next { State.reset with port := s.port, txs := s.txs, rxm := s.rxm, out := s.out }

/-- R41: the fields of STATUS, each in its place, the reserved bits 0. The register's value is that of the state the read
observes (R70). -/
def Obligations.StatusFields : Prop :=
  ∀ s : State,
    let t := settle s
    (readPort 0x04 s).getLsbD 0 = t.cfgValid ∧ (readPort 0x04 s).getLsbD 1 = t.modActive
    ∧ (readPort 0x04 s).getLsbD 2 = t.modDone ∧ (readPort 0x04 s).getLsbD 3 = t.syncLocked
    ∧ (readPort 0x04 s).getLsbD 4 = t.crcOk ∧ (readPort 0x04 s).getLsbD 5 = t.txpOvf
    ∧ (readPort 0x04 s).extractLsb' 6 2 = 0 ∧ (readPort 0x04 s).extractLsb' 8 4 = t.err
    ∧ (readPort 0x04 s).extractLsb' 12 20 = 0

/-! ## 20_memory -/

/-- R64: the read map, offset by offset, BP by its fields (R42), STATUS by its own view (R41, `StatusFields`);
the offsets without a register read 0. The values are those of the state the read observes (R70). -/
def Obligations.ReadMap : Prop :=
  ∀ s : State,
    let t := settle s
    readPort 0x00 s = 0x574E0001 ∧ readPort 0x04 s = statusWord t ∧ readPort 0x08 s = t.crc.setWidth 32
    ∧ readPort 0x0C s = BitVec.ofNat 32 t.txp.length ∧ readPort 0x10 s = BitVec.ofNat 32 t.txf.length
    ∧ readPort 0x14 s = BitVec.ofNat 32 t.rxbuf.length ∧ readPort 0x18 s = t.sps
    ∧ readPort 0x1C s = t.modBit ∧ readPort 0x20 s = t.modN ∧ readPort 0x24 s = t.modTotal
    ∧ readPort 0x28 s = t.dmN
    ∧ (readPort 0x2C s).extractLsb' 0 8 = t.bpAcc ∧ (readPort 0x2C s).extractLsb' 8 3 = t.bpCnt
    ∧ (readPort 0x2C s).extractLsb' 11 21 = 0
    ∧ readPort 0x30 s = t.syncSr.extractLsb' 0 32 ∧ readPort 0x34 s = t.syncSr.extractLsb' 32 32
    ∧ readPort 0x38 s = t.rxmCount ∧ readPort 0x3C s = t.txsCount
    ∧ readPort 0x40 s = t.cfgs.sr ∧ readPort 0x44 s = t.cfgs.sym ∧ readPort 0x48 s = t.cfgs.f0
    ∧ readPort 0x4C s = t.cfgs.f1 ∧ readPort 0x50 s = t.cfgs.amp
    ∧ readPort 0x54 s = 0 ∧ readPort 0x58 s = 0 ∧ readPort 0x5C s = 0
    ∧ readPort 0x60 s = t.act.sr ∧ readPort 0x64 s = t.act.sym ∧ readPort 0x68 s = t.act.f0
    ∧ readPort 0x6C s = t.act.f1 ∧ readPort 0x70 s = t.act.amp
    ∧ readPort 0x74 s = 0 ∧ readPort 0x78 s = 0 ∧ readPort 0x7C s = 0

/-- R63: the low two bits of a read offset are ignored. -/
def Obligations.ReadIgnoresLowOffsetBits : Prop :=
  ∀ (a : BitVec 7) (s : State), readPort a s = readPort (a &&& 0x7C) s

/-- R70, R260: a read observes the state in which every whole command written before it has completed: that state is
reached by steps, no command is left to take in it, and writing commands to a drained port and then reading gives the
register after executing them all, in order. That a read comes after an asserted reset, which R70 does not speak of, and
does not wait for a command whose data words are missing is the model's choice (log entry 17, DEDUCED). -/
def Obligations.ReadsSeeWrittenCommands : Prop :=
  (∀ s : State, (settle s).resetIn = false ∧ decodePort (settle s).port = none
    ∧ (∃ n, Sys2Proof.core.run n s = .next (settle s)) ∧ ∀ a, readPort a s = registerAt a (settle s))
  ∧ ∀ (is : List Instr) (s : State) (a : BitVec 7), (∀ i ∈ is, i.wf = true) → (settle s).port = [] →
      ∃ t, execAll is (settle s) = .next t ∧ settle (hostWrite (assembleWords is) s) = t
        ∧ readPort a (hostWrite (assembleWords is) s) = registerAt a t

/-- R66, R70, R72: with no command written between them, two reads observe the same state however many steps the block
takes between them: the same offset reads the same value, and the two halves of SYNC_SR belong together. With the reset
input asserted this rests on the model's choice to place a read after the reset, which none of these rules states (log
entry 17, DEDUCED). -/
def Obligations.ReadsAreConsistentBetweenWrites : Prop :=
  ∀ (n : Nat) (s t : State), Sys2Proof.core.run n s = .next t →
    (∀ a, readPort a t = readPort a s)
    ∧ readPort 0x34 t ++ readPort 0x30 s = (settle s).syncSr
    ∧ readPort 0x34 s ++ readPort 0x30 t = (settle s).syncSr

/-! ## 40_crc -/

/-- R103 to R105: the CRC commands complete in every state, and write only CRC or CRC_OK. -/
def Obligations.CrcCommandResults : Prop :=
  ∀ (s : State) (b : Byte) (v : Half),
    exec .crcInit s = .next { s with crc := 0xFFFF, out := s.out ++ [.ok] }
    ∧ exec (.crcByte b) s = .next { s with crc := crcStep s.crc b, out := s.out ++ [.ok] }
    ∧ exec (.crcCheck v) s = .next { s with crcOk := decide (s.crc = v), out := s.out ++ [.ok] }

/-- R107: the register after each byte of "123456789". -/
def Obligations.CrcWorkedTrace : Prop :=
  (List.range 10).map (fun k => crc16 (([0x31, 0x32, 0x33, 0x34, 0x35, 0x36, 0x37, 0x38, 0x39] : Bytes).take k))
    = [0xFFFF, 0x947E, 0xF595, 0x7A75, 0x30BA, 0xA471, 0x32E4, 0x9D73, 0x37DD, 0x4B37]

/-- R102 (c), R105: CRC_INIT and one CRC_BYTE per byte leave CRC16 of the bytes, and CRC_CHECK then tells whether its
operand is that checksum. -/
def Obligations.CrcCommandsComputeChecksum : Prop :=
  ∀ (bs : Bytes) (v : Half) (s : State),
    execAll (crcOf bs ++ [.crcCheck v]) s = .next { s with
      crc := crc16 bs, crcOk := decide (crc16 bs = v), out := s.out ++ List.replicate (bs.length + 2) .ok }

/-- R145 (K3): flipping one bit of a byte sequence changes its checksum. -/
def Obligations.CrcDetectsSingleBitError : Prop :=
  ∀ (before after : Bytes) (b : Byte) (j : Fin 8),
    crc16 (before ++ (b ^^^ (1#8 <<< j.val)) :: after) ≠ crc16 (before ++ b :: after)

/-- R27, R28, D21: only CRC_INIT and CRC_BYTE write CRC, and only CRC_CHECK writes CRC_OK; the framer and the scanner
never do. -/
def Obligations.CrcUnitIsIndependent : Prop :=
  ∀ (i : Instr) (s t : State), exec i s = .next t →
    ((i ≠ .crcInit ∧ ∀ b, i ≠ .crcByte b) → t.crc = s.crc) ∧ ((∀ v, i ≠ .crcCheck v) → t.crcOk = s.crcOk)

/-! ## 41_framing -/

/-- R122, R123: the TXP commands complete in every state; a push on a full buffer discards its byte. -/
def Obligations.TxpCommandResults : Prop :=
  ∀ (s : State) (b : Byte),
    exec .txpClear s = .next { s with txp := [], txpOvf := false, out := s.out ++ [.ok] }
    ∧ (s.txp.length = 65535 → exec (.txpPush b) s = .next { s with txpOvf := true, out := s.out ++ [.ok] })
    ∧ (s.txp.length ≠ 65535 → exec (.txpPush b) s = .next { s with txp := s.txp ++ [b], out := s.out ++ [.ok] })

/-- R124 to R126: the TXF commands complete on an idle modulator with room in the buffer, and write only TXF. -/
def Obligations.TxfCommandResults : Prop :=
  ∀ (s : State) (b : Byte), s.modActive = false →
    exec .txfClear s = .next { s with txf := [], out := s.out ++ [.ok] }
    ∧ (s.txf.length ≠ Config.txfCap →
        exec (.txfPush b) s = .next { s with txf := s.txf ++ [b], out := s.out ++ [.ok] })
    ∧ (s.txpOvf = false → s.txf.length + s.txp.length + 5 ≤ Config.txfCap →
        exec .txFrame s = .next { s with txf := s.txf ++ frame s.txp, out := s.out ++ [.ok] })

/-- R127, R230: where the TXF commands raise an error instead, and which one where several apply. -/
def Obligations.TxfCommandErrors : Prop :=
  ∀ (s : State) (b : Byte),
    (s.modActive = true →
      exec .txfClear s = raise .busy s ∧ exec (.txfPush b) s = raise .busy s ∧ exec .txFrame s = raise .busy s)
    ∧ (s.modActive = false → s.txf.length = Config.txfCap → exec (.txfPush b) s = raise .txOverflow s)
    ∧ (s.modActive = false → s.txpOvf = true → exec .txFrame s = raise .payloadTooLarge s)
    ∧ (s.modActive = false → s.txpOvf = false → Config.txfCap < s.txf.length + s.txp.length + 5 →
        exec .txFrame s = raise .txOverflow s)

/-- R128: the laws of the framer: length and marker, round trip through SCAN, injectivity. -/
def Obligations.FramerLaws : Prop :=
  (∀ p : Bytes, (frame p).length = p.length + 5 ∧ (frame p).head? = some 0x7E)
  ∧ (∀ p : Bytes, p.length ≤ 65535 → scan (frame p) = ([p], []))
  ∧ ∀ p q : Bytes, p.length ≤ 65535 → q.length ≤ 65535 → frame p = frame q → p = q

/-- R142, R139: RX_BYTE completes in every state: RXBUF becomes what SCAN leaves, and SCAN's messages are emitted and
counted modulo 2^32. -/
def Obligations.RxByteResult : Prop :=
  ∀ (s : State) (b : Byte),
    exec (.rxByte b) s = .next { s with
      rxbuf := (scan (s.rxbuf ++ [b])).2, rxm := s.rxm ++ (scan (s.rxbuf ++ [b])).1
      rxmCount := BitVec.ofNat 32 (s.rxmCount.toNat + (scan (s.rxbuf ++ [b])).1.length)
      out := s.out ++ [.ok] }

/-- R138: SCAN ends within len(buf) + 1 passes: allowing more passes changes nothing. -/
def Obligations.ScanEndsWithinPasses : Prop :=
  ∀ (buf : Bytes) (passes : Nat), buf.length < passes → scanLoop passes buf = scan buf

/-- R140: the three forms RXBUF has after every RX_APPEND, and its greatest length. -/
def Obligations.RemainderForms : Prop :=
  ∀ (b : Byte) (s : State),
    ((rxAppend b s).rxbuf = []
      ∨ (rxAppend b s).rxbuf = [0x7E]
      ∨ (∃ x, (rxAppend b s).rxbuf = [0x7E, x])
      ∨ ∃ hi lo body, (rxAppend b s).rxbuf = 0x7E :: hi :: lo :: body
          ∧ (rxAppend b s).rxbuf.length < 5 + (hi.toNat * 256 + lo.toNat))
    ∧ (rxAppend b s).rxbuf.length ≤ 65539

/-- R143: scanning in two chunks is scanning the whole, and RX_BYTE on the bytes of a stream one by one emits what one
scan of the stream finds and leaves its remainder. -/
def Obligations.ScanIsChunkIndependent : Prop :=
  (∀ a b : Bytes, scan (a ++ b) =
    ((scan a).1 ++ (scan ((scan a).2 ++ b)).1, (scan ((scan a).2 ++ b)).2))
  ∧ ∀ (stream : Bytes) (s : State), s.rxbuf = [] →
      execAll (rxBytes stream) s = .next { s with
        rxbuf := (scan stream).2, rxm := s.rxm ++ (scan stream).1
        rxmCount := s.rxmCount + BitVec.ofNat 32 (scan stream).1.length
        out := s.out ++ List.replicate stream.length .ok }

/-- R145: garbage tolerance, several frames, truncation, and corruption resync under the condition R145 adds: no byte
of the corrupted frame after its first is a marker. -/
def Obligations.ScannerTestableProperties : Prop :=
  (∀ g p : Bytes, (0x7E : Byte) ∉ g → p.length ≤ 65535 → (scan (g ++ frame p)).1 = [p])
  ∧ (∀ p q : Bytes, p.length ≤ 65535 → q.length ≤ 65535 → (scan (frame p ++ frame q)).1 = [p, q])
  ∧ (∀ p : Bytes, p.length ≤ 65535 → scan (frame p).dropLast = ([], (frame p).dropLast))
  ∧ ∀ (before after q : Bytes) (b : Byte) (j : Fin 8),
      (before ++ b :: after).length ≤ 65535 → q.length ≤ 65535 →
      (0x7E : Byte) ∉ ((frame (before ++ b :: after)).set (3 + before.length) (b ^^^ (1#8 <<< j.val))).tail →
        (scan ((frame (before ++ b :: after)).set (3 + before.length) (b ^^^ (1#8 <<< j.val)) ++ frame q)).1 = [q]

/-- R144, R262: a false marker whose length field announces L bytes holds everything back until 5 + L bytes have
arrived from it. -/
def Obligations.FalseMarkerHoldsBack : Prop :=
  ∀ (g rest : Bytes) (hi lo : Byte), (0x7E : Byte) ∉ g → rest.length < hi.toNat * 256 + lo.toNat + 2 →
    scan (g ++ 0x7E :: hi :: lo :: rest) = ([], 0x7E :: hi :: lo :: rest)

/-! ## 42_modulator -/

/-- R150, R151: the transmitted bits are 64 alternating bits from 0, then the bytes of TXF most-significant bit
first. -/
def Obligations.TransmittedBits : Prop :=
  ∀ txf : Bytes, txBits txf = (List.replicate 32 [false, true]).flatten ++ txf.flatMap bitsMsb

/-- R155, R157: MOD_START completes under a configuration and latches the transmission; MOD_STOP completes in every
state and clears MOD_ACTIVE alone; without a configuration MOD_START raises INVALID_CONFIG. -/
def Obligations.ModStartStopResults : Prop :=
  ∀ s : State,
    (s.cfgValid = true → exec .modStart s = .next { s with
      modBit := 0, modN := 0, modTotal := BitVec.ofNat 32 (64 + 8 * s.txf.length), modActive := true
      modDone := false, out := s.out ++ [.ok] })
    ∧ (s.cfgValid = false → exec .modStart s = raise .invalidConfig s)
    ∧ exec .modStop s = .next { s with modActive := false, out := s.out ++ [.ok] }

/-- R156: MOD_SAMPLE on an active transmission emits the tone sample of the current bit and advances the counters; at
MOD_TOTAL it ends the transmission. With none active it raises MOD_IDLE. -/
def Obligations.ModSampleResult : Prop :=
  ∀ s : State,
    (s.modActive = false → exec .modSample s = raise .modIdle s)
    ∧ (s.modActive = true →
        let bit := txBit s.txf s.modBit.toNat
        let sample := Config.num.tone s.act.amp (if bit then s.act.f1 else s.act.f0) s.modN s.act.sr
        let within := s.modN.toNat + 1 < s.sps.toNat
        let nextBit := if within then s.modBit else s.modBit + 1
        exec .modSample s = .next { s with
          txs := s.txs ++ [Config.num.encode sample], txsCount := s.txsCount + 1
          modN := if within then s.modN + 1 else 0, modBit := nextBit
          modActive := decide (nextBit ≠ s.modTotal)
          modDone := if nextBit = s.modTotal then true else s.modDone
          out := s.out ++ [.ok] })

/-- R154: MOD_START and MOD_TOTAL · SPS MOD_SAMPLEs append exactly ENCODE(TXF) to TXS and end with MOD_ACTIVE = 0 and
MOD_DONE = 1. -/
def Obligations.TransmissionEmitsEncode : Prop :=
  ∀ s : State, s.cfgValid = true → 1 ≤ s.sps.toNat → s.txf.length ≤ 536870903 →
    execAll (.modStart :: modRun ((64 + 8 * s.txf.length) * s.sps.toNat)) s = .next { s with
      txs := s.txs ++ (encodeSamples Config.num s.act s.sps.toNat s.txf).map Config.num.encode
      txsCount := s.txsCount + BitVec.ofNat 32 ((64 + 8 * s.txf.length) * s.sps.toNat)
      modBit := BitVec.ofNat 32 (64 + 8 * s.txf.length), modN := 0
      modTotal := BitVec.ofNat 32 (64 + 8 * s.txf.length), modActive := false, modDone := true
      out := s.out ++ List.replicate ((64 + 8 * s.txf.length) * s.sps.toNat + 1) .ok }

/-- R158 (d): k MOD_SAMPLEs after MOD_START, before the end, MOD_BIT is k div SPS and MOD_N is k mod SPS. -/
def Obligations.SampleCountersAfterK : Prop :=
  ∀ (s : State) (k : Nat), s.cfgValid = true → s.txf.length ≤ 536870903 →
    k < (64 + 8 * s.txf.length) * s.sps.toNat →
      ∃ t, execAll (.modStart :: modRun k) s = .next t ∧ t.modActive = true
        ∧ t.modBit.toNat = k / s.sps.toNat ∧ t.modN.toNat = k % s.sps.toNat

/-- R158 (c): what MOD_SAMPLE emits, and the modulator's next state, depend on TXF, the active configuration and the
modulator alone, not on the demodulator, the CRC unit, the payload buffer or the staged configuration. -/
def Obligations.ModulatorReadsNothingElse : Prop :=
  ∀ s u : State, s.txf = u.txf → s.act = u.act → s.sps = u.sps → s.modActive = u.modActive →
    s.modBit = u.modBit → s.modN = u.modN → s.modTotal = u.modTotal → s.modDone = u.modDone →
      ∀ t v : State, exec .modSample s = .next t → exec .modSample u = .next v →
        ∃ xs, t.txs = s.txs ++ xs ∧ v.txs = u.txs ++ xs ∧ t.modActive = v.modActive ∧ t.modBit = v.modBit
          ∧ t.modN = v.modN ∧ t.modTotal = v.modTotal ∧ t.modDone = v.modDone

/-! ## 43_demodulator -/

/-- R179: DM_SAMPLE completes under a configuration: inside a window the detectors and DM_N advance; at its end the
powers decide a bit, the window starts again, and the bit goes to the synchronizer. Without a configuration it raises
INVALID_CONFIG. -/
def Obligations.DmSampleResult : Prop :=
  ∀ (s : State) (d : DWord),
    (s.cfgValid = false → exec (.dmSample d) s = raise .invalidConfig s)
    ∧ (s.cfgValid = true →
        let n := Config.num
        let x := n.decode d
        let a0 := n.nadd (n.nsub (n.nmul s.coeff0 s.q10) s.q20) x
        let a1 := n.nadd (n.nsub (n.nmul s.coeff1 s.q11) s.q21) x
        let p0 := n.nsub (n.nadd (n.nmul a0 a0) (n.nmul s.q10 s.q10)) (n.nmul (n.nmul s.coeff0 a0) s.q10)
        let p1 := n.nsub (n.nadd (n.nmul a1 a1) (n.nmul s.q11 s.q11)) (n.nmul (n.nmul s.coeff1 a1) s.q11)
        (s.dmN.toNat + 1 < s.sps.toNat → exec (.dmSample d) s = .next { s with
          q10 := a0, q20 := s.q10, q11 := a1, q21 := s.q11, dmN := s.dmN + 1, out := s.out ++ [.ok] })
        ∧ (s.sps.toNat ≤ s.dmN.toNat + 1 → exec (.dmSample d) s = .next
            { syncBit (n.ngt p1 p0) { s with
                q10 := n.nzero, q20 := n.nzero, q11 := n.nzero, q21 := n.nzero, dmN := 0 } with
              out := s.out ++ [.ok] }))

/-- R176: one bit through the preamble synchronizer. -/
def Obligations.SyncBitResult : Prop :=
  ∀ (s : State) (bit : Bool),
    let sr := BitVec.ofNat 64 (2 * s.syncSr.toNat + bit.toNat)
    (s.syncLocked = true → syncBit bit s = packBit bit s)
    ∧ (s.syncLocked = false → sr = 0x5555555555555555 →
        syncBit bit s = { s with syncSr := sr, syncLocked := true, bpAcc := 0, bpCnt := 0 })
    ∧ (s.syncLocked = false → sr ≠ 0x5555555555555555 → syncBit bit s = { s with syncSr := sr })

/-- R177: one bit through the packer. -/
def Obligations.PackBitResult : Prop :=
  ∀ (s : State) (bit : Bool),
    let acc := BitVec.ofNat 8 (2 * s.bpAcc.toNat + bit.toNat)
    (s.bpCnt = 7 → packBit bit s = rxAppend acc { s with bpAcc := 0, bpCnt := 0 })
    ∧ (s.bpCnt ≠ 7 → packBit bit s = { s with bpAcc := acc, bpCnt := s.bpCnt + 1 })

/-- R174: evaluating the recurrence as each sample arrives gives exactly the bit of the source's buffered window, under
every instantiation of `num`; and SPS DM_SAMPLEs from a window's start are one such window. -/
def Obligations.WindowEqualsBufferedWindow : Prop :=
  (∀ (num : NumOps NumVal) (xs : List NumVal) (s : State),
      s.q10 = num.nzero → s.q20 = num.nzero → s.q11 = num.nzero → s.q21 = num.nzero → s.dmN = 0 →
      xs ≠ [] → xs.length = s.sps.toNat →
        feedSamples num xs s = syncBit (windowBit num s.coeff0 s.coeff1 xs) s)
  ∧ ∀ (ds : List DWord) (s : State), s.cfgValid = true →
      execAll (dmFeed ds) s = .next { feedSamples Config.num (ds.map Config.num.decode) s with
        out := s.out ++ List.replicate ds.length .ok }

/-- R178: in LOCKED, at a byte boundary, the bits of a byte sequence most-significant first deliver exactly its bytes to
RX_APPEND, in order. -/
def Obligations.LockedBitsDeliverBytes : Prop :=
  ∀ (bs : Bytes) (s : State), s.syncLocked = true → s.bpAcc = 0 → s.bpCnt = 0 →
    feedBits (bs.flatMap bitsMsb) s = bs.foldl (fun t b => rxAppend b t) s

/-- R176, R182: from SYNC_SR = 0, after any number of zero bits, the synchronizer stays seeking through the first 63
preamble bits and locks exactly at the last one. -/
def Obligations.LockAtLastPreambleBit : Prop :=
  ∀ (zeros : Nat) (s : State), s.syncLocked = false → s.syncSr = 0 →
    (∀ k < 64, (feedBits (List.replicate zeros false ++ (txBits []).take k) s).syncLocked = false)
    ∧ feedBits (List.replicate zeros false ++ txBits []) s =
        { s with syncLocked := true, syncSr := 0x5555555555555555, bpAcc := 0, bpCnt := 0 }

/-- R182, bit by bit: after any number of zero bits, the transmitted bits of FRAME(p) make a seeking receiver lock and
emit exactly p. -/
def Obligations.TransmittedBitsRecoverPayload : Prop :=
  ∀ (zeros : Nat) (p : Bytes) (s : State), p.length ≤ 65535 →
    s.syncLocked = false → s.syncSr = 0 → s.rxbuf = [] →
      feedBits (List.replicate zeros false ++ txBits (frame p)) s = { s with
        syncLocked := true, syncSr := 0x5555555555555555, bpAcc := 0, bpCnt := 0
        rxm := s.rxm ++ [p], rxmCount := s.rxmCount + 1 }

/-- R182: under exact reals, with both tones at distinct integer bins below SPS/2 and AMP >= 1, the power of the tone
sent is (AMP·SPS/131072)^2, the power of the other is 0, and every window's bit is the bit sent. -/
def Obligations.ExactRealWindowsDecideRight : Prop :=
  ∀ (decode : DWord → ℝ) (encode : ℝ → DWord) (c : Cfg) (sps k0 k1 : Nat),
    1 ≤ c.sr.toNat → 1 ≤ c.amp.toNat → sps < 2 ^ 32 →
    c.f0.toNat * sps = k0 * c.sr.toNat → c.f1.toNat * sps = k1 * c.sr.toNat →
    1 ≤ k0 → 1 ≤ k1 → 2 * k0 < sps → 2 * k1 < sps → k0 ≠ k1 →
      let num := exactReal decode encode
      let c0 := num.coeff c.f0 c.sr
      let c1 := num.coeff c.f1 c.sr
      let sent : ℝ := (c.amp.toNat * sps / 131072) ^ 2
      (windowPower num c0 (symbolSamples num c sps false) = sent
        ∧ windowPower num c1 (symbolSamples num c sps false) = 0)
      ∧ (windowPower num c0 (symbolSamples num c sps true) = 0
        ∧ windowPower num c1 (symbolSamples num c sps true) = sent)
      ∧ ∀ bit, windowBit num c0 c1 (symbolSamples num c sps bit) = bit

/-- R182: under any numerics in which a window of either symbol gives the bit sent, a receiver at a window's start, fed
any number of windows that give bit 0 (silence among them, R264) and then exactly ENCODE(FRAME(p)), emits exactly p. -/
def Obligations.LoopbackRecoversPayload : Prop :=
  ∀ (num : NumOps NumVal) (quiet : List (List NumVal)) (p : Bytes) (s : State), p.length ≤ 65535 →
    s.syncLocked = false → s.syncSr = 0 → s.rxbuf = [] → s.dmN = 0 → 1 ≤ s.sps.toNat →
    s.q10 = num.nzero → s.q20 = num.nzero → s.q11 = num.nzero → s.q21 = num.nzero →
    (∀ bit, windowBit num s.coeff0 s.coeff1 (symbolSamples num s.act s.sps.toNat bit) = bit) →
    (∀ w ∈ quiet, w.length = s.sps.toNat ∧ windowBit num s.coeff0 s.coeff1 w = false) →
      feedSamples num (quiet.flatten ++ encodeSamples num s.act s.sps.toNat (frame p)) s = { s with
        syncLocked := true, syncSr := 0x5555555555555555, bpAcc := 0, bpCnt := 0
        rxm := s.rxm ++ [p], rxmCount := s.rxmCount + 1 }

/-- R180: DM_RESET completes in every state, clears the receiver and nothing else; twice is once, but for the second
outcome. -/
def Obligations.DmResetResult : Prop :=
  ∀ s : State,
    let t := { s with
      q10 := Config.num.nzero, q20 := Config.num.nzero, q11 := Config.num.nzero, q21 := Config.num.nzero
      dmN := 0, syncLocked := false, syncSr := 0, bpAcc := 0, bpCnt := 0, rxbuf := [] }
    exec .dmReset s = .next { t with out := s.out ++ [.ok] }
    ∧ execAll [.dmReset, .dmReset] s = .next { t with out := s.out ++ [.ok, .ok] }

/-- R179, P3: reception reads no transmit-side state and no staged configuration: changing those before a DM_SAMPLE
changes nothing else of what it does. -/
def Obligations.ReceiverIgnoresTransmitter : Prop :=
  ∀ (s t : State) (d : DWord) (txp txf : Bytes) (ovf active done : Bool) (bit n total : Word) (staged : Cfg)
      (crc : Half),
    exec (.dmSample d) s = .next t → s.cfgValid = true →
      exec (.dmSample d) { s with
          txp := txp, txf := txf, txpOvf := ovf, modActive := active, modDone := done, modBit := bit, modN := n
          modTotal := total, cfgs := staged, crc := crc }
        = .next { t with
          txp := txp, txf := txf, txpOvf := ovf, modActive := active, modDone := done, modBit := bit, modN := n
          modTotal := total, cfgs := staged, crc := crc }

/-! ## 44_control -/

/-- R200 to R202: NOP and STAT_CLR complete in every state, CFG_WR wherever its selector names a register; a selector
of 5 or more is ILLEGAL. -/
def Obligations.HousekeepingResults : Prop :=
  ∀ (s : State) (sel : Byte) (value : Word),
    exec .nop s = .next { s with out := s.out ++ [.ok] }
    ∧ exec .statClr s = .next { s with err := 0, modDone := false, out := s.out ++ [.ok] }
    ∧ exec (.cfgWr 0 value) s = .next { s with cfgs := { s.cfgs with sr := value }, out := s.out ++ [.ok] }
    ∧ exec (.cfgWr 1 value) s = .next { s with cfgs := { s.cfgs with sym := value }, out := s.out ++ [.ok] }
    ∧ exec (.cfgWr 2 value) s = .next { s with cfgs := { s.cfgs with f0 := value }, out := s.out ++ [.ok] }
    ∧ exec (.cfgWr 3 value) s = .next { s with cfgs := { s.cfgs with f1 := value }, out := s.out ++ [.ok] }
    ∧ exec (.cfgWr 4 value) s = .next { s with cfgs := { s.cfgs with amp := value }, out := s.out ++ [.ok] }
    ∧ (5 ≤ sel.toNat → exec (.cfgWr sel value) s = raise .illegal s)

/-- R204, R206: CFG_COMMIT completes exactly on a valid staged tuple: it becomes the active one, SPS and the
coefficients are computed from it, the modulator stops and the receiver is cleared. Any other tuple raises
INVALID_CONFIG. -/
def Obligations.CfgCommitResult : Prop :=
  ∀ s : State,
    let c := s.cfgs
    let sps := (2 * c.sr.toNat + c.sym.toNat) / (2 * c.sym.toNat)
    let valid := 1 ≤ c.sr.toNat ∧ 1 ≤ c.sym.toNat ∧ c.f0 ≠ c.f1 ∧ 1 ≤ sps ∧ c.amp.toNat ≤ 65536
    (valid → exec .cfgCommit s = .next { s with
      act := c, sps := BitVec.ofNat 32 sps, coeff0 := Config.num.coeff c.f0 c.sr
      coeff1 := Config.num.coeff c.f1 c.sr, cfgValid := true, modActive := false
      q10 := Config.num.nzero, q20 := Config.num.nzero, q11 := Config.num.nzero, q21 := Config.num.nzero
      dmN := 0, syncLocked := false, syncSr := 0, bpAcc := 0, bpCnt := 0, rxbuf := []
      out := s.out ++ [.ok] })
    ∧ (¬ valid → exec .cfgCommit s = raise .invalidConfig s)

/-- R205: SPSOF is the quotient of the rates rounded to the nearest integer, exact halves up; it fits 32 bits. -/
def Obligations.SpsIsRoundedQuotient : Prop :=
  ∀ sr sym : Word, 1 ≤ sym.toNat →
    ((spsOf sr sym : ℕ) : ℤ) = ⌊(sr.toNat : ℚ) / (sym.toNat : ℚ) + 1 / 2⌋ ∧ spsOf sr sym < 2 ^ 32

/-- R207: the four laws of configuration. -/
def Obligations.ConfigurationLaws : Prop :=
  (∀ s t u : State, exec .cfgCommit s = .next t → t.out = s.out ++ [.ok] → exec .dmReset s = .next u →
    t.modActive = false ∧ t.q10 = u.q10 ∧ t.q20 = u.q20 ∧ t.q11 = u.q11 ∧ t.q21 = u.q21 ∧ t.dmN = u.dmN
      ∧ t.syncLocked = u.syncLocked ∧ t.syncSr = u.syncSr ∧ t.bpAcc = u.bpAcc ∧ t.bpCnt = u.bpCnt
      ∧ t.rxbuf = u.rxbuf)
  ∧ (∀ s t : State, exec .cfgCommit s = .next t → t.out ≠ s.out ++ [.ok] →
    ({ t with err := s.err, out := s.out } = s) ∧ (s.err ≠ 0 → t.err = s.err))
  ∧ (∀ s t : State, step s = .next t → s.resetIn = false → s.cfgValid = true → t.cfgValid = true)
  ∧ ∀ (i : Instr) (s t : State), exec i s = .next t →
    t.act ≠ s.act ∨ t.sps ≠ s.sps ∨ t.coeff0 ≠ s.coeff0 ∨ t.coeff1 ≠ s.coeff1 →
      i = .cfgCommit ∧ t.out = s.out ++ [.ok] ∧ t.modActive = false ∧ t.dmN = 0
end

