-- ==== Sys2Proof/Laws/Decode.lean ====
section
/-! SUPPORT. The fields of a command word built from an opcode and an operand (30_encoding R81, R84). -/

namespace Sys2Proof

/-- W[31] of a built word is bit 7 of its opcode (R80). -/
@[simp] theorem carriesData_commandWord (opc : Byte) (operand : BitVec 24) :
    carriesData (commandWord opc operand) = opc.msb := by
  simp [carriesData, commandWord, BitVec.msb_eq_getLsbD_last]

/-- The number of a built word. -/
theorem commandWord_toNat (opc : Byte) (operand : BitVec 24) :
    (commandWord opc operand).toNat = opc.toNat * 2 ^ 24 + operand.toNat := by
  have ho := opc.isLt
  have hp := operand.isLt
  have h1 : (opc.setWidth 32 <<< 24).toNat = opc.toNat <<< 24 := by
    simp [Nat.shiftLeft_eq]
    omega
  have h2 : (operand.setWidth 32).toNat = operand.toNat := by
    simp
    omega
  rw [commandWord, BitVec.toNat_or, h1, h2, ← Nat.shiftLeft_add_eq_or_of_lt operand.isLt, Nat.shiftLeft_eq]

@[simp] theorem opcOf_commandWord (opc : Byte) (operand : BitVec 24) : opcOf (commandWord opc operand) = opc := by
  apply BitVec.eq_of_toNat_eq
  have h := operand.isLt
  have h' := opc.isLt
  simp only [opcOf, BitVec.extractLsb'_toNat, commandWord_toNat, Nat.shiftRight_eq_div_pow]
  omega

@[simp] theorem low24Of_commandWord (opc : Byte) (operand : BitVec 24) :
    low24Of (commandWord opc operand) = operand := by
  apply BitVec.eq_of_toNat_eq
  have h := operand.isLt
  simp only [low24Of, BitVec.extractLsb'_toNat, commandWord_toNat, Nat.shiftRight_zero]
  omega

/-- The halves of a data word make it up again, D[63:32] first (R62). -/
@[simp] theorem dataHigh_append_dataLow (d : DWord) : dataHigh d ++ dataLow d = d := by
  apply BitVec.eq_of_toNat_eq
  have h := d.isLt
  have hl : (dataLow d).toNat < 2 ^ 32 := (dataLow d).isLt
  rw [BitVec.toNat_append, ← Nat.shiftLeft_add_eq_or_of_lt hl, Nat.shiftLeft_eq]
  simp only [dataHigh, dataLow, BitVec.extractLsb'_toNat, Nat.shiftRight_eq_div_pow]
  omega

/-- A command of one word is taken alone (R80). -/
theorem takeCommand_single (w : Word) (rest : List Word) (h : carriesData w = false) :
    takeCommand (w :: rest) = some (w, 0#64, rest) := by simp [takeCommand, h]

/-- A command with a data word is taken with both its words (R80). -/
theorem takeCommand_data (w dh dl : Word) (rest : List Word) (h : carriesData w = true) :
    takeCommand (w :: dh :: dl :: rest) = some (w, dh ++ dl, rest) := by simp [takeCommand, h]

end Sys2Proof
end

