-- ==== Sys2Proof/Laws/State.lean ====
section
/-! SUPPORT. One lemma per field per named update of the state, each true by `rfl`: what the update writes there, or
that it leaves the field alone. -/

namespace Sys2Proof.Machine

/-! ## appendOutcome -/

@[simp] theorem appendOutcome_port (o : CmdOutcome) (s : State) : (appendOutcome o s).port = s.port := rfl
@[simp] theorem appendOutcome_resetIn (o : CmdOutcome) (s : State) : (appendOutcome o s).resetIn = s.resetIn := rfl
@[simp] theorem appendOutcome_cfgs (o : CmdOutcome) (s : State) : (appendOutcome o s).cfgs = s.cfgs := rfl
@[simp] theorem appendOutcome_act (o : CmdOutcome) (s : State) : (appendOutcome o s).act = s.act := rfl
@[simp] theorem appendOutcome_sps (o : CmdOutcome) (s : State) : (appendOutcome o s).sps = s.sps := rfl
@[simp] theorem appendOutcome_cfgValid (o : CmdOutcome) (s : State) : (appendOutcome o s).cfgValid = s.cfgValid := rfl
@[simp] theorem appendOutcome_coeff0 (o : CmdOutcome) (s : State) : (appendOutcome o s).coeff0 = s.coeff0 := rfl
@[simp] theorem appendOutcome_coeff1 (o : CmdOutcome) (s : State) : (appendOutcome o s).coeff1 = s.coeff1 := rfl
@[simp] theorem appendOutcome_crc (o : CmdOutcome) (s : State) : (appendOutcome o s).crc = s.crc := rfl
@[simp] theorem appendOutcome_crcOk (o : CmdOutcome) (s : State) : (appendOutcome o s).crcOk = s.crcOk := rfl
@[simp] theorem appendOutcome_txp (o : CmdOutcome) (s : State) : (appendOutcome o s).txp = s.txp := rfl
@[simp] theorem appendOutcome_txpOvf (o : CmdOutcome) (s : State) : (appendOutcome o s).txpOvf = s.txpOvf := rfl
@[simp] theorem appendOutcome_txf (o : CmdOutcome) (s : State) : (appendOutcome o s).txf = s.txf := rfl
@[simp] theorem appendOutcome_modActive (o : CmdOutcome) (s : State) : (appendOutcome o s).modActive = s.modActive := rfl
@[simp] theorem appendOutcome_modDone (o : CmdOutcome) (s : State) : (appendOutcome o s).modDone = s.modDone := rfl
@[simp] theorem appendOutcome_modBit (o : CmdOutcome) (s : State) : (appendOutcome o s).modBit = s.modBit := rfl
@[simp] theorem appendOutcome_modN (o : CmdOutcome) (s : State) : (appendOutcome o s).modN = s.modN := rfl
@[simp] theorem appendOutcome_modTotal (o : CmdOutcome) (s : State) : (appendOutcome o s).modTotal = s.modTotal := rfl
@[simp] theorem appendOutcome_txsCount (o : CmdOutcome) (s : State) : (appendOutcome o s).txsCount = s.txsCount := rfl
@[simp] theorem appendOutcome_q10 (o : CmdOutcome) (s : State) : (appendOutcome o s).q10 = s.q10 := rfl
@[simp] theorem appendOutcome_q20 (o : CmdOutcome) (s : State) : (appendOutcome o s).q20 = s.q20 := rfl
@[simp] theorem appendOutcome_q11 (o : CmdOutcome) (s : State) : (appendOutcome o s).q11 = s.q11 := rfl
@[simp] theorem appendOutcome_q21 (o : CmdOutcome) (s : State) : (appendOutcome o s).q21 = s.q21 := rfl
@[simp] theorem appendOutcome_dmN (o : CmdOutcome) (s : State) : (appendOutcome o s).dmN = s.dmN := rfl
@[simp] theorem appendOutcome_syncLocked (o : CmdOutcome) (s : State) : (appendOutcome o s).syncLocked = s.syncLocked := rfl
@[simp] theorem appendOutcome_syncSr (o : CmdOutcome) (s : State) : (appendOutcome o s).syncSr = s.syncSr := rfl
@[simp] theorem appendOutcome_bpAcc (o : CmdOutcome) (s : State) : (appendOutcome o s).bpAcc = s.bpAcc := rfl
@[simp] theorem appendOutcome_bpCnt (o : CmdOutcome) (s : State) : (appendOutcome o s).bpCnt = s.bpCnt := rfl
@[simp] theorem appendOutcome_rxbuf (o : CmdOutcome) (s : State) : (appendOutcome o s).rxbuf = s.rxbuf := rfl
@[simp] theorem appendOutcome_rxmCount (o : CmdOutcome) (s : State) : (appendOutcome o s).rxmCount = s.rxmCount := rfl
@[simp] theorem appendOutcome_err (o : CmdOutcome) (s : State) : (appendOutcome o s).err = s.err := rfl
@[simp] theorem appendOutcome_txs (o : CmdOutcome) (s : State) : (appendOutcome o s).txs = s.txs := rfl
@[simp] theorem appendOutcome_rxm (o : CmdOutcome) (s : State) : (appendOutcome o s).rxm = s.rxm := rfl
@[simp] theorem appendOutcome_out (o : CmdOutcome) (s : State) : (appendOutcome o s).out = s.out ++ [o] := rfl

/-! ## raised -/

@[simp] theorem raised_port (e : ErrCode) (s : State) : (raised e s).port = s.port := rfl
@[simp] theorem raised_resetIn (e : ErrCode) (s : State) : (raised e s).resetIn = s.resetIn := rfl
@[simp] theorem raised_cfgs (e : ErrCode) (s : State) : (raised e s).cfgs = s.cfgs := rfl
@[simp] theorem raised_act (e : ErrCode) (s : State) : (raised e s).act = s.act := rfl
@[simp] theorem raised_sps (e : ErrCode) (s : State) : (raised e s).sps = s.sps := rfl
@[simp] theorem raised_cfgValid (e : ErrCode) (s : State) : (raised e s).cfgValid = s.cfgValid := rfl
@[simp] theorem raised_coeff0 (e : ErrCode) (s : State) : (raised e s).coeff0 = s.coeff0 := rfl
@[simp] theorem raised_coeff1 (e : ErrCode) (s : State) : (raised e s).coeff1 = s.coeff1 := rfl
@[simp] theorem raised_crc (e : ErrCode) (s : State) : (raised e s).crc = s.crc := rfl
@[simp] theorem raised_crcOk (e : ErrCode) (s : State) : (raised e s).crcOk = s.crcOk := rfl
@[simp] theorem raised_txp (e : ErrCode) (s : State) : (raised e s).txp = s.txp := rfl
@[simp] theorem raised_txpOvf (e : ErrCode) (s : State) : (raised e s).txpOvf = s.txpOvf := rfl
@[simp] theorem raised_txf (e : ErrCode) (s : State) : (raised e s).txf = s.txf := rfl
@[simp] theorem raised_modActive (e : ErrCode) (s : State) : (raised e s).modActive = s.modActive := rfl
@[simp] theorem raised_modDone (e : ErrCode) (s : State) : (raised e s).modDone = s.modDone := rfl
@[simp] theorem raised_modBit (e : ErrCode) (s : State) : (raised e s).modBit = s.modBit := rfl
@[simp] theorem raised_modN (e : ErrCode) (s : State) : (raised e s).modN = s.modN := rfl
@[simp] theorem raised_modTotal (e : ErrCode) (s : State) : (raised e s).modTotal = s.modTotal := rfl
@[simp] theorem raised_txsCount (e : ErrCode) (s : State) : (raised e s).txsCount = s.txsCount := rfl
@[simp] theorem raised_q10 (e : ErrCode) (s : State) : (raised e s).q10 = s.q10 := rfl
@[simp] theorem raised_q20 (e : ErrCode) (s : State) : (raised e s).q20 = s.q20 := rfl
@[simp] theorem raised_q11 (e : ErrCode) (s : State) : (raised e s).q11 = s.q11 := rfl
@[simp] theorem raised_q21 (e : ErrCode) (s : State) : (raised e s).q21 = s.q21 := rfl
@[simp] theorem raised_dmN (e : ErrCode) (s : State) : (raised e s).dmN = s.dmN := rfl
@[simp] theorem raised_syncLocked (e : ErrCode) (s : State) : (raised e s).syncLocked = s.syncLocked := rfl
@[simp] theorem raised_syncSr (e : ErrCode) (s : State) : (raised e s).syncSr = s.syncSr := rfl
@[simp] theorem raised_bpAcc (e : ErrCode) (s : State) : (raised e s).bpAcc = s.bpAcc := rfl
@[simp] theorem raised_bpCnt (e : ErrCode) (s : State) : (raised e s).bpCnt = s.bpCnt := rfl
@[simp] theorem raised_rxbuf (e : ErrCode) (s : State) : (raised e s).rxbuf = s.rxbuf := rfl
@[simp] theorem raised_rxmCount (e : ErrCode) (s : State) : (raised e s).rxmCount = s.rxmCount := rfl
@[simp] theorem raised_err (e : ErrCode) (s : State) : (raised e s).err = if s.err = 0#4 then e.code else s.err := rfl
@[simp] theorem raised_txs (e : ErrCode) (s : State) : (raised e s).txs = s.txs := rfl
@[simp] theorem raised_rxm (e : ErrCode) (s : State) : (raised e s).rxm = s.rxm := rfl
@[simp] theorem raised_out (e : ErrCode) (s : State) : (raised e s).out = s.out ++ [.err e] := rfl

/-! ## acknowledge -/

@[simp] theorem acknowledge_port (s : State) : (acknowledge s).port = s.port := rfl
@[simp] theorem acknowledge_resetIn (s : State) : (acknowledge s).resetIn = s.resetIn := rfl
@[simp] theorem acknowledge_cfgs (s : State) : (acknowledge s).cfgs = s.cfgs := rfl
@[simp] theorem acknowledge_act (s : State) : (acknowledge s).act = s.act := rfl
@[simp] theorem acknowledge_sps (s : State) : (acknowledge s).sps = s.sps := rfl
@[simp] theorem acknowledge_cfgValid (s : State) : (acknowledge s).cfgValid = s.cfgValid := rfl
@[simp] theorem acknowledge_coeff0 (s : State) : (acknowledge s).coeff0 = s.coeff0 := rfl
@[simp] theorem acknowledge_coeff1 (s : State) : (acknowledge s).coeff1 = s.coeff1 := rfl
@[simp] theorem acknowledge_crc (s : State) : (acknowledge s).crc = s.crc := rfl
@[simp] theorem acknowledge_crcOk (s : State) : (acknowledge s).crcOk = s.crcOk := rfl
@[simp] theorem acknowledge_txp (s : State) : (acknowledge s).txp = s.txp := rfl
@[simp] theorem acknowledge_txpOvf (s : State) : (acknowledge s).txpOvf = s.txpOvf := rfl
@[simp] theorem acknowledge_txf (s : State) : (acknowledge s).txf = s.txf := rfl
@[simp] theorem acknowledge_modActive (s : State) : (acknowledge s).modActive = s.modActive := rfl
@[simp] theorem acknowledge_modDone (s : State) : (acknowledge s).modDone = false := rfl
@[simp] theorem acknowledge_modBit (s : State) : (acknowledge s).modBit = s.modBit := rfl
@[simp] theorem acknowledge_modN (s : State) : (acknowledge s).modN = s.modN := rfl
@[simp] theorem acknowledge_modTotal (s : State) : (acknowledge s).modTotal = s.modTotal := rfl
@[simp] theorem acknowledge_txsCount (s : State) : (acknowledge s).txsCount = s.txsCount := rfl
@[simp] theorem acknowledge_q10 (s : State) : (acknowledge s).q10 = s.q10 := rfl
@[simp] theorem acknowledge_q20 (s : State) : (acknowledge s).q20 = s.q20 := rfl
@[simp] theorem acknowledge_q11 (s : State) : (acknowledge s).q11 = s.q11 := rfl
@[simp] theorem acknowledge_q21 (s : State) : (acknowledge s).q21 = s.q21 := rfl
@[simp] theorem acknowledge_dmN (s : State) : (acknowledge s).dmN = s.dmN := rfl
@[simp] theorem acknowledge_syncLocked (s : State) : (acknowledge s).syncLocked = s.syncLocked := rfl
@[simp] theorem acknowledge_syncSr (s : State) : (acknowledge s).syncSr = s.syncSr := rfl
@[simp] theorem acknowledge_bpAcc (s : State) : (acknowledge s).bpAcc = s.bpAcc := rfl
@[simp] theorem acknowledge_bpCnt (s : State) : (acknowledge s).bpCnt = s.bpCnt := rfl
@[simp] theorem acknowledge_rxbuf (s : State) : (acknowledge s).rxbuf = s.rxbuf := rfl
@[simp] theorem acknowledge_rxmCount (s : State) : (acknowledge s).rxmCount = s.rxmCount := rfl
@[simp] theorem acknowledge_err (s : State) : (acknowledge s).err = 0#4 := rfl
@[simp] theorem acknowledge_txs (s : State) : (acknowledge s).txs = s.txs := rfl
@[simp] theorem acknowledge_rxm (s : State) : (acknowledge s).rxm = s.rxm := rfl
@[simp] theorem acknowledge_out (s : State) : (acknowledge s).out = s.out := rfl

/-! ## emitSample -/

@[simp] theorem emitSample_port (num : NumOps NumVal) (x : NumVal) (s : State) : (emitSample num x s).port = s.port := rfl
@[simp] theorem emitSample_resetIn (num : NumOps NumVal) (x : NumVal) (s : State) : (emitSample num x s).resetIn = s.resetIn := rfl
@[simp] theorem emitSample_cfgs (num : NumOps NumVal) (x : NumVal) (s : State) : (emitSample num x s).cfgs = s.cfgs := rfl
@[simp] theorem emitSample_act (num : NumOps NumVal) (x : NumVal) (s : State) : (emitSample num x s).act = s.act := rfl
@[simp] theorem emitSample_sps (num : NumOps NumVal) (x : NumVal) (s : State) : (emitSample num x s).sps = s.sps := rfl
@[simp] theorem emitSample_cfgValid (num : NumOps NumVal) (x : NumVal) (s : State) : (emitSample num x s).cfgValid = s.cfgValid := rfl
@[simp] theorem emitSample_coeff0 (num : NumOps NumVal) (x : NumVal) (s : State) : (emitSample num x s).coeff0 = s.coeff0 := rfl
@[simp] theorem emitSample_coeff1 (num : NumOps NumVal) (x : NumVal) (s : State) : (emitSample num x s).coeff1 = s.coeff1 := rfl
@[simp] theorem emitSample_crc (num : NumOps NumVal) (x : NumVal) (s : State) : (emitSample num x s).crc = s.crc := rfl
@[simp] theorem emitSample_crcOk (num : NumOps NumVal) (x : NumVal) (s : State) : (emitSample num x s).crcOk = s.crcOk := rfl
@[simp] theorem emitSample_txp (num : NumOps NumVal) (x : NumVal) (s : State) : (emitSample num x s).txp = s.txp := rfl
@[simp] theorem emitSample_txpOvf (num : NumOps NumVal) (x : NumVal) (s : State) : (emitSample num x s).txpOvf = s.txpOvf := rfl
@[simp] theorem emitSample_txf (num : NumOps NumVal) (x : NumVal) (s : State) : (emitSample num x s).txf = s.txf := rfl
@[simp] theorem emitSample_modActive (num : NumOps NumVal) (x : NumVal) (s : State) : (emitSample num x s).modActive = s.modActive := rfl
@[simp] theorem emitSample_modDone (num : NumOps NumVal) (x : NumVal) (s : State) : (emitSample num x s).modDone = s.modDone := rfl
@[simp] theorem emitSample_modBit (num : NumOps NumVal) (x : NumVal) (s : State) : (emitSample num x s).modBit = s.modBit := rfl
@[simp] theorem emitSample_modN (num : NumOps NumVal) (x : NumVal) (s : State) : (emitSample num x s).modN = s.modN := rfl
@[simp] theorem emitSample_modTotal (num : NumOps NumVal) (x : NumVal) (s : State) : (emitSample num x s).modTotal = s.modTotal := rfl
@[simp] theorem emitSample_txsCount (num : NumOps NumVal) (x : NumVal) (s : State) : (emitSample num x s).txsCount = s.txsCount + 1#32 := rfl
@[simp] theorem emitSample_q10 (num : NumOps NumVal) (x : NumVal) (s : State) : (emitSample num x s).q10 = s.q10 := rfl
@[simp] theorem emitSample_q20 (num : NumOps NumVal) (x : NumVal) (s : State) : (emitSample num x s).q20 = s.q20 := rfl
@[simp] theorem emitSample_q11 (num : NumOps NumVal) (x : NumVal) (s : State) : (emitSample num x s).q11 = s.q11 := rfl
@[simp] theorem emitSample_q21 (num : NumOps NumVal) (x : NumVal) (s : State) : (emitSample num x s).q21 = s.q21 := rfl
@[simp] theorem emitSample_dmN (num : NumOps NumVal) (x : NumVal) (s : State) : (emitSample num x s).dmN = s.dmN := rfl
@[simp] theorem emitSample_syncLocked (num : NumOps NumVal) (x : NumVal) (s : State) : (emitSample num x s).syncLocked = s.syncLocked := rfl
@[simp] theorem emitSample_syncSr (num : NumOps NumVal) (x : NumVal) (s : State) : (emitSample num x s).syncSr = s.syncSr := rfl
@[simp] theorem emitSample_bpAcc (num : NumOps NumVal) (x : NumVal) (s : State) : (emitSample num x s).bpAcc = s.bpAcc := rfl
@[simp] theorem emitSample_bpCnt (num : NumOps NumVal) (x : NumVal) (s : State) : (emitSample num x s).bpCnt = s.bpCnt := rfl
@[simp] theorem emitSample_rxbuf (num : NumOps NumVal) (x : NumVal) (s : State) : (emitSample num x s).rxbuf = s.rxbuf := rfl
@[simp] theorem emitSample_rxmCount (num : NumOps NumVal) (x : NumVal) (s : State) : (emitSample num x s).rxmCount = s.rxmCount := rfl
@[simp] theorem emitSample_err (num : NumOps NumVal) (x : NumVal) (s : State) : (emitSample num x s).err = s.err := rfl
@[simp] theorem emitSample_txs (num : NumOps NumVal) (x : NumVal) (s : State) : (emitSample num x s).txs = s.txs ++ [num.encode x] := rfl
@[simp] theorem emitSample_rxm (num : NumOps NumVal) (x : NumVal) (s : State) : (emitSample num x s).rxm = s.rxm := rfl
@[simp] theorem emitSample_out (num : NumOps NumVal) (x : NumVal) (s : State) : (emitSample num x s).out = s.out := rfl

/-! ## emitMessages -/

@[simp] theorem emitMessages_port (ms : List Bytes) (s : State) : (emitMessages ms s).port = s.port := rfl
@[simp] theorem emitMessages_resetIn (ms : List Bytes) (s : State) : (emitMessages ms s).resetIn = s.resetIn := rfl
@[simp] theorem emitMessages_cfgs (ms : List Bytes) (s : State) : (emitMessages ms s).cfgs = s.cfgs := rfl
@[simp] theorem emitMessages_act (ms : List Bytes) (s : State) : (emitMessages ms s).act = s.act := rfl
@[simp] theorem emitMessages_sps (ms : List Bytes) (s : State) : (emitMessages ms s).sps = s.sps := rfl
@[simp] theorem emitMessages_cfgValid (ms : List Bytes) (s : State) : (emitMessages ms s).cfgValid = s.cfgValid := rfl
@[simp] theorem emitMessages_coeff0 (ms : List Bytes) (s : State) : (emitMessages ms s).coeff0 = s.coeff0 := rfl
@[simp] theorem emitMessages_coeff1 (ms : List Bytes) (s : State) : (emitMessages ms s).coeff1 = s.coeff1 := rfl
@[simp] theorem emitMessages_crc (ms : List Bytes) (s : State) : (emitMessages ms s).crc = s.crc := rfl
@[simp] theorem emitMessages_crcOk (ms : List Bytes) (s : State) : (emitMessages ms s).crcOk = s.crcOk := rfl
@[simp] theorem emitMessages_txp (ms : List Bytes) (s : State) : (emitMessages ms s).txp = s.txp := rfl
@[simp] theorem emitMessages_txpOvf (ms : List Bytes) (s : State) : (emitMessages ms s).txpOvf = s.txpOvf := rfl
@[simp] theorem emitMessages_txf (ms : List Bytes) (s : State) : (emitMessages ms s).txf = s.txf := rfl
@[simp] theorem emitMessages_modActive (ms : List Bytes) (s : State) : (emitMessages ms s).modActive = s.modActive := rfl
@[simp] theorem emitMessages_modDone (ms : List Bytes) (s : State) : (emitMessages ms s).modDone = s.modDone := rfl
@[simp] theorem emitMessages_modBit (ms : List Bytes) (s : State) : (emitMessages ms s).modBit = s.modBit := rfl
@[simp] theorem emitMessages_modN (ms : List Bytes) (s : State) : (emitMessages ms s).modN = s.modN := rfl
@[simp] theorem emitMessages_modTotal (ms : List Bytes) (s : State) : (emitMessages ms s).modTotal = s.modTotal := rfl
@[simp] theorem emitMessages_txsCount (ms : List Bytes) (s : State) : (emitMessages ms s).txsCount = s.txsCount := rfl
@[simp] theorem emitMessages_q10 (ms : List Bytes) (s : State) : (emitMessages ms s).q10 = s.q10 := rfl
@[simp] theorem emitMessages_q20 (ms : List Bytes) (s : State) : (emitMessages ms s).q20 = s.q20 := rfl
@[simp] theorem emitMessages_q11 (ms : List Bytes) (s : State) : (emitMessages ms s).q11 = s.q11 := rfl
@[simp] theorem emitMessages_q21 (ms : List Bytes) (s : State) : (emitMessages ms s).q21 = s.q21 := rfl
@[simp] theorem emitMessages_dmN (ms : List Bytes) (s : State) : (emitMessages ms s).dmN = s.dmN := rfl
@[simp] theorem emitMessages_syncLocked (ms : List Bytes) (s : State) : (emitMessages ms s).syncLocked = s.syncLocked := rfl
@[simp] theorem emitMessages_syncSr (ms : List Bytes) (s : State) : (emitMessages ms s).syncSr = s.syncSr := rfl
@[simp] theorem emitMessages_bpAcc (ms : List Bytes) (s : State) : (emitMessages ms s).bpAcc = s.bpAcc := rfl
@[simp] theorem emitMessages_bpCnt (ms : List Bytes) (s : State) : (emitMessages ms s).bpCnt = s.bpCnt := rfl
@[simp] theorem emitMessages_rxbuf (ms : List Bytes) (s : State) : (emitMessages ms s).rxbuf = s.rxbuf := rfl
@[simp] theorem emitMessages_rxmCount (ms : List Bytes) (s : State) : (emitMessages ms s).rxmCount = s.rxmCount + BitVec.ofNat 32 ms.length := rfl
@[simp] theorem emitMessages_err (ms : List Bytes) (s : State) : (emitMessages ms s).err = s.err := rfl
@[simp] theorem emitMessages_txs (ms : List Bytes) (s : State) : (emitMessages ms s).txs = s.txs := rfl
@[simp] theorem emitMessages_rxm (ms : List Bytes) (s : State) : (emitMessages ms s).rxm = s.rxm ++ ms := rfl
@[simp] theorem emitMessages_out (ms : List Bytes) (s : State) : (emitMessages ms s).out = s.out := rfl

/-! ## setPort -/

@[simp] theorem setPort_port (ws : List Word) (s : State) : (setPort ws s).port = ws := rfl
@[simp] theorem setPort_resetIn (ws : List Word) (s : State) : (setPort ws s).resetIn = s.resetIn := rfl
@[simp] theorem setPort_cfgs (ws : List Word) (s : State) : (setPort ws s).cfgs = s.cfgs := rfl
@[simp] theorem setPort_act (ws : List Word) (s : State) : (setPort ws s).act = s.act := rfl
@[simp] theorem setPort_sps (ws : List Word) (s : State) : (setPort ws s).sps = s.sps := rfl
@[simp] theorem setPort_cfgValid (ws : List Word) (s : State) : (setPort ws s).cfgValid = s.cfgValid := rfl
@[simp] theorem setPort_coeff0 (ws : List Word) (s : State) : (setPort ws s).coeff0 = s.coeff0 := rfl
@[simp] theorem setPort_coeff1 (ws : List Word) (s : State) : (setPort ws s).coeff1 = s.coeff1 := rfl
@[simp] theorem setPort_crc (ws : List Word) (s : State) : (setPort ws s).crc = s.crc := rfl
@[simp] theorem setPort_crcOk (ws : List Word) (s : State) : (setPort ws s).crcOk = s.crcOk := rfl
@[simp] theorem setPort_txp (ws : List Word) (s : State) : (setPort ws s).txp = s.txp := rfl
@[simp] theorem setPort_txpOvf (ws : List Word) (s : State) : (setPort ws s).txpOvf = s.txpOvf := rfl
@[simp] theorem setPort_txf (ws : List Word) (s : State) : (setPort ws s).txf = s.txf := rfl
@[simp] theorem setPort_modActive (ws : List Word) (s : State) : (setPort ws s).modActive = s.modActive := rfl
@[simp] theorem setPort_modDone (ws : List Word) (s : State) : (setPort ws s).modDone = s.modDone := rfl
@[simp] theorem setPort_modBit (ws : List Word) (s : State) : (setPort ws s).modBit = s.modBit := rfl
@[simp] theorem setPort_modN (ws : List Word) (s : State) : (setPort ws s).modN = s.modN := rfl
@[simp] theorem setPort_modTotal (ws : List Word) (s : State) : (setPort ws s).modTotal = s.modTotal := rfl
@[simp] theorem setPort_txsCount (ws : List Word) (s : State) : (setPort ws s).txsCount = s.txsCount := rfl
@[simp] theorem setPort_q10 (ws : List Word) (s : State) : (setPort ws s).q10 = s.q10 := rfl
@[simp] theorem setPort_q20 (ws : List Word) (s : State) : (setPort ws s).q20 = s.q20 := rfl
@[simp] theorem setPort_q11 (ws : List Word) (s : State) : (setPort ws s).q11 = s.q11 := rfl
@[simp] theorem setPort_q21 (ws : List Word) (s : State) : (setPort ws s).q21 = s.q21 := rfl
@[simp] theorem setPort_dmN (ws : List Word) (s : State) : (setPort ws s).dmN = s.dmN := rfl
@[simp] theorem setPort_syncLocked (ws : List Word) (s : State) : (setPort ws s).syncLocked = s.syncLocked := rfl
@[simp] theorem setPort_syncSr (ws : List Word) (s : State) : (setPort ws s).syncSr = s.syncSr := rfl
@[simp] theorem setPort_bpAcc (ws : List Word) (s : State) : (setPort ws s).bpAcc = s.bpAcc := rfl
@[simp] theorem setPort_bpCnt (ws : List Word) (s : State) : (setPort ws s).bpCnt = s.bpCnt := rfl
@[simp] theorem setPort_rxbuf (ws : List Word) (s : State) : (setPort ws s).rxbuf = s.rxbuf := rfl
@[simp] theorem setPort_rxmCount (ws : List Word) (s : State) : (setPort ws s).rxmCount = s.rxmCount := rfl
@[simp] theorem setPort_err (ws : List Word) (s : State) : (setPort ws s).err = s.err := rfl
@[simp] theorem setPort_txs (ws : List Word) (s : State) : (setPort ws s).txs = s.txs := rfl
@[simp] theorem setPort_rxm (ws : List Word) (s : State) : (setPort ws s).rxm = s.rxm := rfl
@[simp] theorem setPort_out (ws : List Word) (s : State) : (setPort ws s).out = s.out := rfl

/-! ## rxAppend -/

@[simp] theorem rxAppend_port (b : Byte) (s : State) : (rxAppend b s).port = s.port := rfl
@[simp] theorem rxAppend_resetIn (b : Byte) (s : State) : (rxAppend b s).resetIn = s.resetIn := rfl
@[simp] theorem rxAppend_cfgs (b : Byte) (s : State) : (rxAppend b s).cfgs = s.cfgs := rfl
@[simp] theorem rxAppend_act (b : Byte) (s : State) : (rxAppend b s).act = s.act := rfl
@[simp] theorem rxAppend_sps (b : Byte) (s : State) : (rxAppend b s).sps = s.sps := rfl
@[simp] theorem rxAppend_cfgValid (b : Byte) (s : State) : (rxAppend b s).cfgValid = s.cfgValid := rfl
@[simp] theorem rxAppend_coeff0 (b : Byte) (s : State) : (rxAppend b s).coeff0 = s.coeff0 := rfl
@[simp] theorem rxAppend_coeff1 (b : Byte) (s : State) : (rxAppend b s).coeff1 = s.coeff1 := rfl
@[simp] theorem rxAppend_crc (b : Byte) (s : State) : (rxAppend b s).crc = s.crc := rfl
@[simp] theorem rxAppend_crcOk (b : Byte) (s : State) : (rxAppend b s).crcOk = s.crcOk := rfl
@[simp] theorem rxAppend_txp (b : Byte) (s : State) : (rxAppend b s).txp = s.txp := rfl
@[simp] theorem rxAppend_txpOvf (b : Byte) (s : State) : (rxAppend b s).txpOvf = s.txpOvf := rfl
@[simp] theorem rxAppend_txf (b : Byte) (s : State) : (rxAppend b s).txf = s.txf := rfl
@[simp] theorem rxAppend_modActive (b : Byte) (s : State) : (rxAppend b s).modActive = s.modActive := rfl
@[simp] theorem rxAppend_modDone (b : Byte) (s : State) : (rxAppend b s).modDone = s.modDone := rfl
@[simp] theorem rxAppend_modBit (b : Byte) (s : State) : (rxAppend b s).modBit = s.modBit := rfl
@[simp] theorem rxAppend_modN (b : Byte) (s : State) : (rxAppend b s).modN = s.modN := rfl
@[simp] theorem rxAppend_modTotal (b : Byte) (s : State) : (rxAppend b s).modTotal = s.modTotal := rfl
@[simp] theorem rxAppend_txsCount (b : Byte) (s : State) : (rxAppend b s).txsCount = s.txsCount := rfl
@[simp] theorem rxAppend_q10 (b : Byte) (s : State) : (rxAppend b s).q10 = s.q10 := rfl
@[simp] theorem rxAppend_q20 (b : Byte) (s : State) : (rxAppend b s).q20 = s.q20 := rfl
@[simp] theorem rxAppend_q11 (b : Byte) (s : State) : (rxAppend b s).q11 = s.q11 := rfl
@[simp] theorem rxAppend_q21 (b : Byte) (s : State) : (rxAppend b s).q21 = s.q21 := rfl
@[simp] theorem rxAppend_dmN (b : Byte) (s : State) : (rxAppend b s).dmN = s.dmN := rfl
@[simp] theorem rxAppend_syncLocked (b : Byte) (s : State) : (rxAppend b s).syncLocked = s.syncLocked := rfl
@[simp] theorem rxAppend_syncSr (b : Byte) (s : State) : (rxAppend b s).syncSr = s.syncSr := rfl
@[simp] theorem rxAppend_bpAcc (b : Byte) (s : State) : (rxAppend b s).bpAcc = s.bpAcc := rfl
@[simp] theorem rxAppend_bpCnt (b : Byte) (s : State) : (rxAppend b s).bpCnt = s.bpCnt := rfl
@[simp] theorem rxAppend_rxbuf (b : Byte) (s : State) : (rxAppend b s).rxbuf = (scan (s.rxbuf ++ [b])).2 := rfl
@[simp] theorem rxAppend_rxmCount (b : Byte) (s : State) : (rxAppend b s).rxmCount = s.rxmCount + BitVec.ofNat 32 (scan (s.rxbuf ++ [b])).1.length := rfl
@[simp] theorem rxAppend_err (b : Byte) (s : State) : (rxAppend b s).err = s.err := rfl
@[simp] theorem rxAppend_txs (b : Byte) (s : State) : (rxAppend b s).txs = s.txs := rfl
@[simp] theorem rxAppend_rxm (b : Byte) (s : State) : (rxAppend b s).rxm = s.rxm ++ (scan (s.rxbuf ++ [b])).1 := rfl
@[simp] theorem rxAppend_out (b : Byte) (s : State) : (rxAppend b s).out = s.out := rfl

/-! ## detectorStep -/

@[simp] theorem detectorStep_port (num : NumOps NumVal) (x : NumVal) (s : State) : (detectorStep num x s).port = s.port := rfl
@[simp] theorem detectorStep_resetIn (num : NumOps NumVal) (x : NumVal) (s : State) : (detectorStep num x s).resetIn = s.resetIn := rfl
@[simp] theorem detectorStep_cfgs (num : NumOps NumVal) (x : NumVal) (s : State) : (detectorStep num x s).cfgs = s.cfgs := rfl
@[simp] theorem detectorStep_act (num : NumOps NumVal) (x : NumVal) (s : State) : (detectorStep num x s).act = s.act := rfl
@[simp] theorem detectorStep_sps (num : NumOps NumVal) (x : NumVal) (s : State) : (detectorStep num x s).sps = s.sps := rfl
@[simp] theorem detectorStep_cfgValid (num : NumOps NumVal) (x : NumVal) (s : State) : (detectorStep num x s).cfgValid = s.cfgValid := rfl
@[simp] theorem detectorStep_coeff0 (num : NumOps NumVal) (x : NumVal) (s : State) : (detectorStep num x s).coeff0 = s.coeff0 := rfl
@[simp] theorem detectorStep_coeff1 (num : NumOps NumVal) (x : NumVal) (s : State) : (detectorStep num x s).coeff1 = s.coeff1 := rfl
@[simp] theorem detectorStep_crc (num : NumOps NumVal) (x : NumVal) (s : State) : (detectorStep num x s).crc = s.crc := rfl
@[simp] theorem detectorStep_crcOk (num : NumOps NumVal) (x : NumVal) (s : State) : (detectorStep num x s).crcOk = s.crcOk := rfl
@[simp] theorem detectorStep_txp (num : NumOps NumVal) (x : NumVal) (s : State) : (detectorStep num x s).txp = s.txp := rfl
@[simp] theorem detectorStep_txpOvf (num : NumOps NumVal) (x : NumVal) (s : State) : (detectorStep num x s).txpOvf = s.txpOvf := rfl
@[simp] theorem detectorStep_txf (num : NumOps NumVal) (x : NumVal) (s : State) : (detectorStep num x s).txf = s.txf := rfl
@[simp] theorem detectorStep_modActive (num : NumOps NumVal) (x : NumVal) (s : State) : (detectorStep num x s).modActive = s.modActive := rfl
@[simp] theorem detectorStep_modDone (num : NumOps NumVal) (x : NumVal) (s : State) : (detectorStep num x s).modDone = s.modDone := rfl
@[simp] theorem detectorStep_modBit (num : NumOps NumVal) (x : NumVal) (s : State) : (detectorStep num x s).modBit = s.modBit := rfl
@[simp] theorem detectorStep_modN (num : NumOps NumVal) (x : NumVal) (s : State) : (detectorStep num x s).modN = s.modN := rfl
@[simp] theorem detectorStep_modTotal (num : NumOps NumVal) (x : NumVal) (s : State) : (detectorStep num x s).modTotal = s.modTotal := rfl
@[simp] theorem detectorStep_txsCount (num : NumOps NumVal) (x : NumVal) (s : State) : (detectorStep num x s).txsCount = s.txsCount := rfl
@[simp] theorem detectorStep_q10 (num : NumOps NumVal) (x : NumVal) (s : State) : (detectorStep num x s).q10 = gstep num s.coeff0 s.q10 s.q20 x := rfl
@[simp] theorem detectorStep_q20 (num : NumOps NumVal) (x : NumVal) (s : State) : (detectorStep num x s).q20 = s.q10 := rfl
@[simp] theorem detectorStep_q11 (num : NumOps NumVal) (x : NumVal) (s : State) : (detectorStep num x s).q11 = gstep num s.coeff1 s.q11 s.q21 x := rfl
@[simp] theorem detectorStep_q21 (num : NumOps NumVal) (x : NumVal) (s : State) : (detectorStep num x s).q21 = s.q11 := rfl
@[simp] theorem detectorStep_dmN (num : NumOps NumVal) (x : NumVal) (s : State) : (detectorStep num x s).dmN = s.dmN := rfl
@[simp] theorem detectorStep_syncLocked (num : NumOps NumVal) (x : NumVal) (s : State) : (detectorStep num x s).syncLocked = s.syncLocked := rfl
@[simp] theorem detectorStep_syncSr (num : NumOps NumVal) (x : NumVal) (s : State) : (detectorStep num x s).syncSr = s.syncSr := rfl
@[simp] theorem detectorStep_bpAcc (num : NumOps NumVal) (x : NumVal) (s : State) : (detectorStep num x s).bpAcc = s.bpAcc := rfl
@[simp] theorem detectorStep_bpCnt (num : NumOps NumVal) (x : NumVal) (s : State) : (detectorStep num x s).bpCnt = s.bpCnt := rfl
@[simp] theorem detectorStep_rxbuf (num : NumOps NumVal) (x : NumVal) (s : State) : (detectorStep num x s).rxbuf = s.rxbuf := rfl
@[simp] theorem detectorStep_rxmCount (num : NumOps NumVal) (x : NumVal) (s : State) : (detectorStep num x s).rxmCount = s.rxmCount := rfl
@[simp] theorem detectorStep_err (num : NumOps NumVal) (x : NumVal) (s : State) : (detectorStep num x s).err = s.err := rfl
@[simp] theorem detectorStep_txs (num : NumOps NumVal) (x : NumVal) (s : State) : (detectorStep num x s).txs = s.txs := rfl
@[simp] theorem detectorStep_rxm (num : NumOps NumVal) (x : NumVal) (s : State) : (detectorStep num x s).rxm = s.rxm := rfl
@[simp] theorem detectorStep_out (num : NumOps NumVal) (x : NumVal) (s : State) : (detectorStep num x s).out = s.out := rfl

/-! ## clearWindow -/

@[simp] theorem clearWindow_port (num : NumOps NumVal) (s : State) : (clearWindow num s).port = s.port := rfl
@[simp] theorem clearWindow_resetIn (num : NumOps NumVal) (s : State) : (clearWindow num s).resetIn = s.resetIn := rfl
@[simp] theorem clearWindow_cfgs (num : NumOps NumVal) (s : State) : (clearWindow num s).cfgs = s.cfgs := rfl
@[simp] theorem clearWindow_act (num : NumOps NumVal) (s : State) : (clearWindow num s).act = s.act := rfl
@[simp] theorem clearWindow_sps (num : NumOps NumVal) (s : State) : (clearWindow num s).sps = s.sps := rfl
@[simp] theorem clearWindow_cfgValid (num : NumOps NumVal) (s : State) : (clearWindow num s).cfgValid = s.cfgValid := rfl
@[simp] theorem clearWindow_coeff0 (num : NumOps NumVal) (s : State) : (clearWindow num s).coeff0 = s.coeff0 := rfl
@[simp] theorem clearWindow_coeff1 (num : NumOps NumVal) (s : State) : (clearWindow num s).coeff1 = s.coeff1 := rfl
@[simp] theorem clearWindow_crc (num : NumOps NumVal) (s : State) : (clearWindow num s).crc = s.crc := rfl
@[simp] theorem clearWindow_crcOk (num : NumOps NumVal) (s : State) : (clearWindow num s).crcOk = s.crcOk := rfl
@[simp] theorem clearWindow_txp (num : NumOps NumVal) (s : State) : (clearWindow num s).txp = s.txp := rfl
@[simp] theorem clearWindow_txpOvf (num : NumOps NumVal) (s : State) : (clearWindow num s).txpOvf = s.txpOvf := rfl
@[simp] theorem clearWindow_txf (num : NumOps NumVal) (s : State) : (clearWindow num s).txf = s.txf := rfl
@[simp] theorem clearWindow_modActive (num : NumOps NumVal) (s : State) : (clearWindow num s).modActive = s.modActive := rfl
@[simp] theorem clearWindow_modDone (num : NumOps NumVal) (s : State) : (clearWindow num s).modDone = s.modDone := rfl
@[simp] theorem clearWindow_modBit (num : NumOps NumVal) (s : State) : (clearWindow num s).modBit = s.modBit := rfl
@[simp] theorem clearWindow_modN (num : NumOps NumVal) (s : State) : (clearWindow num s).modN = s.modN := rfl
@[simp] theorem clearWindow_modTotal (num : NumOps NumVal) (s : State) : (clearWindow num s).modTotal = s.modTotal := rfl
@[simp] theorem clearWindow_txsCount (num : NumOps NumVal) (s : State) : (clearWindow num s).txsCount = s.txsCount := rfl
@[simp] theorem clearWindow_q10 (num : NumOps NumVal) (s : State) : (clearWindow num s).q10 = num.nzero := rfl
@[simp] theorem clearWindow_q20 (num : NumOps NumVal) (s : State) : (clearWindow num s).q20 = num.nzero := rfl
@[simp] theorem clearWindow_q11 (num : NumOps NumVal) (s : State) : (clearWindow num s).q11 = num.nzero := rfl
@[simp] theorem clearWindow_q21 (num : NumOps NumVal) (s : State) : (clearWindow num s).q21 = num.nzero := rfl
@[simp] theorem clearWindow_dmN (num : NumOps NumVal) (s : State) : (clearWindow num s).dmN = 0#32 := rfl
@[simp] theorem clearWindow_syncLocked (num : NumOps NumVal) (s : State) : (clearWindow num s).syncLocked = s.syncLocked := rfl
@[simp] theorem clearWindow_syncSr (num : NumOps NumVal) (s : State) : (clearWindow num s).syncSr = s.syncSr := rfl
@[simp] theorem clearWindow_bpAcc (num : NumOps NumVal) (s : State) : (clearWindow num s).bpAcc = s.bpAcc := rfl
@[simp] theorem clearWindow_bpCnt (num : NumOps NumVal) (s : State) : (clearWindow num s).bpCnt = s.bpCnt := rfl
@[simp] theorem clearWindow_rxbuf (num : NumOps NumVal) (s : State) : (clearWindow num s).rxbuf = s.rxbuf := rfl
@[simp] theorem clearWindow_rxmCount (num : NumOps NumVal) (s : State) : (clearWindow num s).rxmCount = s.rxmCount := rfl
@[simp] theorem clearWindow_err (num : NumOps NumVal) (s : State) : (clearWindow num s).err = s.err := rfl
@[simp] theorem clearWindow_txs (num : NumOps NumVal) (s : State) : (clearWindow num s).txs = s.txs := rfl
@[simp] theorem clearWindow_rxm (num : NumOps NumVal) (s : State) : (clearWindow num s).rxm = s.rxm := rfl
@[simp] theorem clearWindow_out (num : NumOps NumVal) (s : State) : (clearWindow num s).out = s.out := rfl

/-! ## clearReceiver -/

@[simp] theorem clearReceiver_port (num : NumOps NumVal) (s : State) : (clearReceiver num s).port = s.port := rfl
@[simp] theorem clearReceiver_resetIn (num : NumOps NumVal) (s : State) : (clearReceiver num s).resetIn = s.resetIn := rfl
@[simp] theorem clearReceiver_cfgs (num : NumOps NumVal) (s : State) : (clearReceiver num s).cfgs = s.cfgs := rfl
@[simp] theorem clearReceiver_act (num : NumOps NumVal) (s : State) : (clearReceiver num s).act = s.act := rfl
@[simp] theorem clearReceiver_sps (num : NumOps NumVal) (s : State) : (clearReceiver num s).sps = s.sps := rfl
@[simp] theorem clearReceiver_cfgValid (num : NumOps NumVal) (s : State) : (clearReceiver num s).cfgValid = s.cfgValid := rfl
@[simp] theorem clearReceiver_coeff0 (num : NumOps NumVal) (s : State) : (clearReceiver num s).coeff0 = s.coeff0 := rfl
@[simp] theorem clearReceiver_coeff1 (num : NumOps NumVal) (s : State) : (clearReceiver num s).coeff1 = s.coeff1 := rfl
@[simp] theorem clearReceiver_crc (num : NumOps NumVal) (s : State) : (clearReceiver num s).crc = s.crc := rfl
@[simp] theorem clearReceiver_crcOk (num : NumOps NumVal) (s : State) : (clearReceiver num s).crcOk = s.crcOk := rfl
@[simp] theorem clearReceiver_txp (num : NumOps NumVal) (s : State) : (clearReceiver num s).txp = s.txp := rfl
@[simp] theorem clearReceiver_txpOvf (num : NumOps NumVal) (s : State) : (clearReceiver num s).txpOvf = s.txpOvf := rfl
@[simp] theorem clearReceiver_txf (num : NumOps NumVal) (s : State) : (clearReceiver num s).txf = s.txf := rfl
@[simp] theorem clearReceiver_modActive (num : NumOps NumVal) (s : State) : (clearReceiver num s).modActive = s.modActive := rfl
@[simp] theorem clearReceiver_modDone (num : NumOps NumVal) (s : State) : (clearReceiver num s).modDone = s.modDone := rfl
@[simp] theorem clearReceiver_modBit (num : NumOps NumVal) (s : State) : (clearReceiver num s).modBit = s.modBit := rfl
@[simp] theorem clearReceiver_modN (num : NumOps NumVal) (s : State) : (clearReceiver num s).modN = s.modN := rfl
@[simp] theorem clearReceiver_modTotal (num : NumOps NumVal) (s : State) : (clearReceiver num s).modTotal = s.modTotal := rfl
@[simp] theorem clearReceiver_txsCount (num : NumOps NumVal) (s : State) : (clearReceiver num s).txsCount = s.txsCount := rfl
@[simp] theorem clearReceiver_q10 (num : NumOps NumVal) (s : State) : (clearReceiver num s).q10 = num.nzero := rfl
@[simp] theorem clearReceiver_q20 (num : NumOps NumVal) (s : State) : (clearReceiver num s).q20 = num.nzero := rfl
@[simp] theorem clearReceiver_q11 (num : NumOps NumVal) (s : State) : (clearReceiver num s).q11 = num.nzero := rfl
@[simp] theorem clearReceiver_q21 (num : NumOps NumVal) (s : State) : (clearReceiver num s).q21 = num.nzero := rfl
@[simp] theorem clearReceiver_dmN (num : NumOps NumVal) (s : State) : (clearReceiver num s).dmN = 0#32 := rfl
@[simp] theorem clearReceiver_syncLocked (num : NumOps NumVal) (s : State) : (clearReceiver num s).syncLocked = false := rfl
@[simp] theorem clearReceiver_syncSr (num : NumOps NumVal) (s : State) : (clearReceiver num s).syncSr = 0#64 := rfl
@[simp] theorem clearReceiver_bpAcc (num : NumOps NumVal) (s : State) : (clearReceiver num s).bpAcc = 0#8 := rfl
@[simp] theorem clearReceiver_bpCnt (num : NumOps NumVal) (s : State) : (clearReceiver num s).bpCnt = 0#3 := rfl
@[simp] theorem clearReceiver_rxbuf (num : NumOps NumVal) (s : State) : (clearReceiver num s).rxbuf = [] := rfl
@[simp] theorem clearReceiver_rxmCount (num : NumOps NumVal) (s : State) : (clearReceiver num s).rxmCount = s.rxmCount := rfl
@[simp] theorem clearReceiver_err (num : NumOps NumVal) (s : State) : (clearReceiver num s).err = s.err := rfl
@[simp] theorem clearReceiver_txs (num : NumOps NumVal) (s : State) : (clearReceiver num s).txs = s.txs := rfl
@[simp] theorem clearReceiver_rxm (num : NumOps NumVal) (s : State) : (clearReceiver num s).rxm = s.rxm := rfl
@[simp] theorem clearReceiver_out (num : NumOps NumVal) (s : State) : (clearReceiver num s).out = s.out := rfl

end Sys2Proof.Machine
end

