-- ==== Sys2Proof/Laws/Ops.lean ====
section
/-! SUPPORT. One lemma per shared operation that says all it can do. -/

namespace Sys2Proof.Machine

/-! ## How a command ends -/

@[simp] theorem complete_eq_next (s t : State) : complete s = .next t ↔ t = appendOutcome .ok s :=
  ⟨fun h => (Host.Outcome.next.inj h).symm, fun h => h ▸ rfl⟩

@[simp] theorem raise_eq_next (e : ErrCode) (s t : State) : raise e s = .next t ↔ t = raised e s :=
  ⟨fun h => (Host.Outcome.next.inj h).symm, fun h => h ▸ rfl⟩

/-- A completing command and an erroring one differ in OUT. -/
theorem complete_ne_raise (e : ErrCode) (s t : State) (h : t.out = s.out) : complete t ≠ raise e s := by
  intro h'
  have := congrArg State.out (Host.Outcome.next.inj h')
  simp [h] at this

/-- Different errors answer different states. -/
theorem raise_injective (e e' : ErrCode) (s : State) (h : raise e s = raise e' s) : e = e' := by
  have := congrArg State.out (Host.Outcome.next.inj h)
  simpa using this

/-! ## The frame buffer's capacity -/

theorem txfCap_bounds : 65540 ≤ Config.txfCap ∧ Config.txfCap ≤ 536870903 := by
  have := Config.txfCapAbove.isLt
  unfold Config.txfCap
  omega

@[simp] theorem txfFull_iff (n : Nat) : txfFull n = true ↔ n = Config.txfCap := by
  have := txfCap_bounds
  simp only [txfFull, Bool.and_eq_true, decide_eq_true_eq]
  omega

@[simp] theorem txfOverflows_iff (n : Nat) : txfOverflows n = true ↔ Config.txfCap < n := by
  have := txfCap_bounds
  simp only [txfOverflows, Bool.and_eq_true, decide_eq_true_eq]
  omega

/-! ## The framer and the scanner -/

/-- The four parts of a frame (R121). -/
theorem frame_eq (p : Bytes) : frame p =
    Config.marker :: highByte (BitVec.ofNat 16 p.length) :: lowByte (BitVec.ofNat 16 p.length)
      :: (p ++ [highByte (crc16 p), lowByte (crc16 p)]) := rfl

/-- The two halves of a 16-bit field, high byte first, are the field (R67). -/
@[simp] theorem highByte_append_lowByte (v : Half) : highByte v ++ lowByte v = v := by
  simp only [highByte, lowByte]
  ext i hi
  simp only [BitVec.getElem_append, BitVec.getElem_extractLsb']
  split
  · rename_i h; simp [BitVec.getLsbD_eq_getElem hi]
  · rename_i h
    have : 8 + (i - 8) = i := by omega
    simp [this, BitVec.getLsbD_eq_getElem hi]

/-- A 16-bit field as a number, from its bytes (R137). -/
theorem append_toNat (hi lo : Byte) : (hi ++ lo : Half).toNat = hi.toNat * 256 + lo.toNat := by
  rw [BitVec.toNat_append, ← Nat.shiftLeft_add_eq_or_of_lt lo.isLt, Nat.shiftLeft_eq]

/-- Fewer than two bytes behind a marker: no length field yet (R136 step 2). -/
theorem candidate_short (tail : Bytes) (h : tail.length < 2) : candidate tail = .incomplete := by
  match tail, h with
  | [], _ => rfl
  | [_], _ => rfl

/-- All that SCAN decides at a marker with a length field (R136 steps 3 to 5). -/
theorem candidate_cons (hi lo : Byte) (body : Bytes) :
    candidate (hi :: lo :: body) =
      if body.length < hi.toNat * 256 + lo.toNat + 2 then .incomplete
      else if frameValid (body.take (hi.toNat * 256 + lo.toNat)) (body.getD (hi.toNat * 256 + lo.toNat) 0)
          (body.getD (hi.toNat * 256 + lo.toNat + 1) 0) then
        .valid (body.take (hi.toNat * 256 + lo.toNat)) (body.drop (hi.toNat * 256 + lo.toNat + 2))
      else .falseMarker := by
  simp only [candidate, append_toNat]

/-- Garbage before a marker is dropped (R136 step 1). -/
theorem fromMarker_append_garbage (g buf : Bytes) (h : Config.marker ∉ g) :
    fromMarker (g ++ buf) = fromMarker buf := by
  induction g with
  | nil => rfl
  | cons b g ih =>
    simp only [List.mem_cons, not_or] at h
    have hb : b ≠ Config.marker := fun e => h.1 e.symm
    simpa [fromMarker, hb] using ih h.2

/-- What a marker leaves is empty or begins with the marker. -/
theorem fromMarker_cases (buf : Bytes) :
    fromMarker buf = [] ∨ ∃ tail, fromMarker buf = Config.marker :: tail := by
  induction buf with
  | nil => exact .inl rfl
  | cons b buf ih =>
    by_cases h : b = Config.marker
    · exact .inr ⟨buf, by simp [fromMarker, h]⟩
    · simpa [fromMarker, h] using ih

theorem fromMarker_length_le (buf : Bytes) : (fromMarker buf).length ≤ buf.length := by
  induction buf with
  | nil => simp [fromMarker]
  | cons b buf ih =>
    by_cases h : b = Config.marker
    · simp [fromMarker, h]
    · have hb : fromMarker (b :: buf) = fromMarker buf := by simp [fromMarker, h]
      rw [hb]
      exact Nat.le_succ_of_le ih

/-! ## The modulator -/

/-- All that the counters do after a sample (R156): they stay within a symbol or go to the next, and the
transmission goes on or ends. -/
theorem advanceModulator_cases (s : State) :
    ∃ n b, advanceModulator s =
        { s with modN := n, modBit := b, modActive := if b = s.modTotal then false else s.modActive
                 modDone := if b = s.modTotal then true else s.modDone }
      ∧ (s.modN.toNat + 1 < s.sps.toNat ∧ n = s.modN + 1#32 ∧ b = s.modBit
        ∨ s.sps.toNat ≤ s.modN.toNat + 1 ∧ n = 0#32 ∧ b = s.modBit + 1#32) := by
  unfold advanceModulator
  by_cases h : s.modN.toNat + 1 < s.sps.toNat
  · refine ⟨s.modN + 1#32, s.modBit, ?_, .inl ⟨h, rfl, rfl⟩⟩
    by_cases hb : s.modBit = s.modTotal <;> simp [h, hb]
  · refine ⟨0#32, s.modBit + 1#32, ?_, .inr ⟨by omega, rfl, rfl⟩⟩
    by_cases hb : s.modBit + 1#32 = s.modTotal <;> simp [h, hb]

/-! ## The receiver -/

/-- All that the packer does with a bit (R177). -/
theorem packBit_cases (bit : Bool) (s : State) :
    (s.bpCnt = 7#3 ∧ packBit bit s = rxAppend ((s.bpAcc <<< 1) ||| (BitVec.ofBool bit).setWidth 8)
        { s with bpAcc := 0#8, bpCnt := 0#3 })
    ∨ (s.bpCnt ≠ 7#3 ∧ packBit bit s =
        { s with bpAcc := (s.bpAcc <<< 1) ||| (BitVec.ofBool bit).setWidth 8, bpCnt := s.bpCnt + 1#3 }) := by
  by_cases h : s.bpCnt = 7#3
  · exact .inl ⟨h, by simp [packBit, h]⟩
  · exact .inr ⟨h, by simp [packBit, h]⟩

/-- All that the synchronizer does with a bit (R176). -/
theorem syncBit_cases (bit : Bool) (s : State) :
    (s.syncLocked = true ∧ syncBit bit s = packBit bit s)
    ∨ (s.syncLocked = false
        ∧ (s.syncSr <<< 1) ||| (BitVec.ofBool bit).setWidth 64 = Config.preambleWord
        ∧ syncBit bit s =
          { s with syncSr := Config.preambleWord, syncLocked := true, bpAcc := 0#8, bpCnt := 0#3 })
    ∨ (s.syncLocked = false
        ∧ (s.syncSr <<< 1) ||| (BitVec.ofBool bit).setWidth 64 ≠ Config.preambleWord
        ∧ syncBit bit s = { s with syncSr := (s.syncSr <<< 1) ||| (BitVec.ofBool bit).setWidth 64 }) := by
  by_cases hl : s.syncLocked = true
  · exact .inl ⟨hl, by simp [syncBit, hl]⟩
  · have hl' : s.syncLocked = false := by simpa using hl
    by_cases hp : (s.syncSr <<< 1) ||| (BitVec.ofBool bit).setWidth 64 = Config.preambleWord
    · exact .inr (.inl ⟨hl', hp, by simp [syncBit, hl', hp]⟩)
    · exact .inr (.inr ⟨hl', hp, by simp [syncBit, hl', hp]⟩)

/-- All that a received sample does (R179): the window goes on, or closes with a bit. -/
theorem takeSample_cases (num : NumOps NumVal) (x : NumVal) (s : State) :
    (s.dmN.toNat + 1 < s.sps.toNat
      ∧ takeSample num x s = { detectorStep num x s with dmN := s.dmN + 1#32 })
    ∨ (s.sps.toNat ≤ s.dmN.toNat + 1
      ∧ takeSample num x s = syncBit (slicedBit num (detectorStep num x s))
          (clearWindow num (detectorStep num x s))) := by
  by_cases h : s.dmN.toNat + 1 < s.sps.toNat
  · exact .inl ⟨h, by simp [takeSample, h]⟩
  · exact .inr ⟨by omega, by simp [takeSample, h]⟩

/-! ## Staging registers -/

/-- A staged register reads back what was written; a selector that names none stages nothing. -/
theorem cfgsRead_cfgsWrite (k : Nat) (v : Word) (c c' : Cfg) (h : cfgsWrite k v c = some c') :
    cfgsRead k c' = some v := by
  unfold cfgsWrite at h
  split at h <;> first | contradiction | (cases h; rfl)

/-- Writing a staged register leaves the others alone. -/
theorem cfgsRead_cfgsWrite_other (k j : Nat) (v : Word) (c c' : Cfg) (h : cfgsWrite k v c = some c') (hj : j ≠ k) :
    cfgsRead j c' = cfgsRead j c := by
  unfold cfgsWrite at h
  split at h
  all_goals first
    | contradiction
    | (cases h; unfold cfgsRead; split <;> first | rfl | exact absurd rfl hj)

theorem cfgsWrite_none_iff (k : Nat) (v : Word) (c : Cfg) : cfgsWrite k v c = none ↔ 5 ≤ k := by
  unfold cfgsWrite
  split <;> simp_all
  omega

end Sys2Proof.Machine
end

