-- ==== Sys2Proof/Laws/PerInstr.lean ====
section
/-! SUPPORT. The statements made per command: how many port words a command's encoding has (30_encoding R80). -/

namespace Sys2Proof.Laws

/-- The encoding has as many words as its first word's bit 31 announces (R80). -/
def EncodedLength.Statement (i : Instr) : Prop :=
  ∃ w data, encode i = w :: data ∧ (encode i).length = commandLength w

theorem EncodedLength.nop : EncodedLength.Statement .nop := ⟨_, _, rfl, rfl⟩
theorem EncodedLength.crcInit : EncodedLength.Statement .crcInit := ⟨_, _, rfl, rfl⟩
theorem EncodedLength.crcByte (b : Byte) : EncodedLength.Statement (.crcByte b) := by
  refine ⟨_, _, rfl, ?_⟩
  simp [encode, commandLength]
  decide
theorem EncodedLength.crcCheck (v : Half) : EncodedLength.Statement (.crcCheck v) := by
  refine ⟨_, _, rfl, ?_⟩
  simp [encode, commandLength]
  decide
theorem EncodedLength.statClr : EncodedLength.Statement .statClr := ⟨_, _, rfl, rfl⟩
theorem EncodedLength.txpClear : EncodedLength.Statement .txpClear := ⟨_, _, rfl, rfl⟩
theorem EncodedLength.txpPush (b : Byte) : EncodedLength.Statement (.txpPush b) := by
  refine ⟨_, _, rfl, ?_⟩
  simp [encode, commandLength]
  decide
theorem EncodedLength.txfClear : EncodedLength.Statement .txfClear := ⟨_, _, rfl, rfl⟩
theorem EncodedLength.txfPush (b : Byte) : EncodedLength.Statement (.txfPush b) := by
  refine ⟨_, _, rfl, ?_⟩
  simp [encode, commandLength]
  decide
theorem EncodedLength.txFrame : EncodedLength.Statement .txFrame := ⟨_, _, rfl, rfl⟩
theorem EncodedLength.modStart : EncodedLength.Statement .modStart := ⟨_, _, rfl, rfl⟩
theorem EncodedLength.modSample : EncodedLength.Statement .modSample := ⟨_, _, rfl, rfl⟩
theorem EncodedLength.modStop : EncodedLength.Statement .modStop := ⟨_, _, rfl, rfl⟩
theorem EncodedLength.dmReset : EncodedLength.Statement .dmReset := ⟨_, _, rfl, rfl⟩
theorem EncodedLength.rxByte (b : Byte) : EncodedLength.Statement (.rxByte b) := by
  refine ⟨_, _, rfl, ?_⟩
  simp [encode, commandLength]
  decide
theorem EncodedLength.cfgCommit : EncodedLength.Statement .cfgCommit := ⟨_, _, rfl, rfl⟩
theorem EncodedLength.cfgWr (sel : Byte) (value : Word) : EncodedLength.Statement (.cfgWr sel value) := by
  refine ⟨_, _, rfl, ?_⟩
  simp [encode, withData, commandLength]
  decide
theorem EncodedLength.dmSample (d : DWord) : EncodedLength.Statement (.dmSample d) := ⟨_, _, rfl, rfl⟩

end Sys2Proof.Laws
end

