-- ==== Sys2Proof/Laws/ReadPort.lean ====
section
/-! SUPPORT. The small lemmas of the read port and of what it waits for (20_memory R63 to R70). -/

namespace Sys2Proof.Machine

/-- A read is the register of the settled state (R70). -/
theorem readPort_eq_registerAt_settle (a : BitVec 7) (s : State) : readPort a s = registerAt a (settle s) := rfl

@[simp] theorem settleFor_zero (s : State) : settleFor 0 s = s := rfl

theorem settleFor_succ_of_next (steps : Nat) (s t : State) (h : step s = .next t) :
    settleFor (steps + 1) s = settleFor steps t := by
  simp only [settleFor, h]

/-- Where the block waits, it stays. -/
theorem settleFor_of_waiting (steps : Nat) (s : State) (h : step s = .next s) : settleFor steps s = s := by
  induction steps with
  | zero => rfl
  | succ steps ih => rw [settleFor_succ_of_next steps s s h, ih]

theorem settle_of_waiting (s : State) (h : step s = .next s) : settle s = s := settleFor_of_waiting _ s h

/-- All that settling does is take steps. -/
theorem settleFor_of_run (steps : Nat) (s t : State) (h : Sys2Proof.core.run steps s = .next t) :
    settleFor steps s = t := by
  induction steps generalizing s with
  | zero => exact Host.Outcome.next.inj h
  | succ steps ih =>
    cases hs : step s with
    | next u =>
      rw [settleFor_succ_of_next steps s u hs]
      apply ih
      simpa only [Host.Core.run, Sys2Proof.core, hs] using h
    | fault r => nomatch r
    | refused r => simp [Host.Core.run, Sys2Proof.core, hs] at h

/-- Settling goes on where it stopped. -/
theorem settleFor_add (m n : Nat) (s t : State) (h : Sys2Proof.core.run m s = .next t) :
    settleFor (m + n) s = settleFor n t := by
  induction m generalizing s with
  | zero => rw [Nat.zero_add, Host.Outcome.next.inj h]
  | succ m ih =>
    cases hs : step s with
    | next u =>
      rw [Nat.succ_add, settleFor_succ_of_next (m + n) s u hs]
      apply ih
      simpa only [Host.Core.run, Sys2Proof.core, hs] using h
    | fault r => nomatch r
    | refused r => simp [Host.Core.run, Sys2Proof.core, hs] at h

end Sys2Proof.Machine
end

