-- ==== Sys2Proof/Tests/Slice0.lean ====
section
/-! SUPPORT. The model's own tests. Expected values come from the spec: the encodings of 30_encoding, the vectors of
95_test_vectors, or a hand calculation from the rule named. -/

open Sys2Proof Sys2Proof.Machine

namespace Sys2Proof.Tests

/-! ## Helpers -/

/-- The state a command leaves. -/
def after (i : Instr) (s : State) : State :=
  match exec i s with
  | .next t => t
  | _ => s

/-- The state a step leaves. -/
def stepped (s : State) : State :=
  match step s with
  | .next t => t
  | _ => s

/-- "cfg8" of 95_test_vectors. -/
def cfg8 : Cfg := { sr := 8, sym := 1, f0 := 1, f1 := 2, amp := 65536 }

/-- A block with cfg8 active. -/
def cfg8State : State :=
  { State.reset with
    act := cfg8, cfgs := cfg8, sps := 8, cfgValid := true
    coeff0 := Config.num.coeff 1 8, coeff1 := Config.num.coeff 2 8 }

/-- The same, sending an empty TXF. -/
def sending : State := { cfg8State with modActive := true, modTotal := 64 }

/-- "hi" and "A", and their frames (FR-3, FR-2). -/
def hi : Bytes := [0x68, 0x69]
def frameHi : Bytes := [0x7E, 0x00, 0x02, 0x68, 0x69, 0x5E, 0xEE]
def frameA : Bytes := [0x7E, 0x00, 0x01, 0x41, 0x70, 0x7F]

/-! ## WellFormed: the one check refuses an ill-formed term (R86) -/

theorem test_wf_refuses_selector_5 : (Instr.cfgWr 5 0).wf = false := by decide
theorem test_wf_takes_selector_4 : (Instr.cfgWr 4 0).wf = true := by decide

/-! ## Decode: one word per command, written from R84 -/

theorem test_decode_nop : decodePort [0x00000000] = some (.cmd .nop, []) := by decide
theorem test_decode_crc_init : decodePort [0x01000000] = some (.cmd .crcInit, []) := by decide
theorem test_decode_crc_byte : decodePort [0x02000041] = some (.cmd (.crcByte 0x41), []) := by decide
theorem test_decode_crc_check : decodePort [0x0300374B] = some (.cmd (.crcCheck 0x374B), []) := by decide
theorem test_decode_stat_clr : decodePort [0x08000000] = some (.cmd .statClr, []) := by decide
theorem test_decode_txp_clear : decodePort [0x10000000] = some (.cmd .txpClear, []) := by decide
theorem test_decode_txp_push : decodePort [0x11000068] = some (.cmd (.txpPush 0x68), []) := by decide
theorem test_decode_txf_clear : decodePort [0x12000000] = some (.cmd .txfClear, []) := by decide
theorem test_decode_txf_push : decodePort [0x130000AA] = some (.cmd (.txfPush 0xAA), []) := by decide
theorem test_decode_tx_frame : decodePort [0x14000000] = some (.cmd .txFrame, []) := by decide
theorem test_decode_mod_start : decodePort [0x20000000] = some (.cmd .modStart, []) := by decide
theorem test_decode_mod_sample : decodePort [0x21000000] = some (.cmd .modSample, []) := by decide
theorem test_decode_mod_stop : decodePort [0x22000000] = some (.cmd .modStop, []) := by decide
theorem test_decode_dm_reset : decodePort [0x30000000] = some (.cmd .dmReset, []) := by decide
theorem test_decode_rx_byte : decodePort [0x310000EE] = some (.cmd (.rxByte 0xEE), []) := by decide
theorem test_decode_cfg_commit : decodePort [0x40000000] = some (.cmd .cfgCommit, []) := by decide
theorem test_decode_cfg_wr :
    decodePort [0x80030000, 0x00000000, 0x00000960, 0x01000000] = some (.cmd (.cfgWr 3 2400), [0x01000000]) := by
  decide
theorem test_decode_dm_sample :
    decodePort [0x81000000, 0x3FE6A09E, 0x667F3BCC] = some (.cmd (.dmSample 0x3FE6A09E667F3BCC), []) := by decide

/-- ENC-1 to ENC-4, ENC-10: illegal commands of one word. -/
theorem test_decode_illegal_single :
    [0x00000001, 0x04000000, 0x0200FF00, 0x03010000, 0x7F000000].map (fun w => decodePort [w])
      = [some (.illegal .nonzeroField, []), some (.illegal .unassignedOpcode, []), some (.illegal .nonzeroField, []),
          some (.illegal .nonzeroField, []), some (.illegal .unassignedOpcode, [])] := by decide

/-- ENC-5 to ENC-9: illegal commands of three words, all taken. -/
theorem test_decode_illegal_data :
    [[0x80050000, 0, 0], [0x80000001, 0, 0], [0x80000000, 1, 0], [0x81000001, 0, 0], [0xFF000000, 0, 0]].map decodePort
      = [some (.illegal .badSelector, []), some (.illegal .nonzeroField, []), some (.illegal .nonzeroField, []),
          some (.illegal .nonzeroField, []), some (.illegal .unassignedOpcode, [])] := by decide

/-- R80: a command whose data words have not all arrived is not taken. -/
theorem test_decode_waits_for_data : decodePort [0x80000000, 0] = none := by decide

/-- The table's numbering: the second port word is bits 63..32, the third bits 95..64. -/
theorem test_decode_table_words :
    decodeTableWord 32 0x14000000 = some .txFrame ∧ decodeTableWord 32 0x80000000 = some (.cfgWr 0 0)
      ∧ decodeTableWord 96 (0x80030000 + 0x960 * 2 ^ 64) = some (.cfgWr 3 2400)
      ∧ decodeTableWord 32 0x04000000 = none := by decide

/-! ## Step -/

/-- A step takes the command written ahead of the port and leaves what stood there. -/
theorem test_step_runs_fetch_word :
    stepped ({ State.reset with port := [0x21000000] }.withFetchWord 32 0x130000AA)
      = { State.reset with port := [0x21000000], txf := [0xAA], out := [.ok] } := by decide

/-- ENC-9: an illegal three-word command raises ILLEGAL and is gone (R223). -/
theorem test_step_illegal :
    stepped { State.reset with port := [0xFF000000, 1, 2, 0] }
      = { State.reset with port := [0], err := 1, out := [.err .illegal] } := by decide

/-- R250: reset keeps the streams. -/
theorem test_step_reset :
    stepped { sending with resetIn := true, rxm := [hi], out := [.ok] }
      = { State.reset with rxm := [hi], out := [.ok] } := by decide

/-! ## CRC unit (95_test_vectors 2.1) -/

/-- CRC-1 to CRC-12. -/
theorem test_crc16_table :
    [[], [0x00], [0xFF], [0x01], [0x7E], [0x41], [0x68, 0x69], [0x68, 0x65, 0x6C, 0x6C, 0x6F],
      [0x31, 0x32, 0x33, 0x34, 0x35, 0x36, 0x37, 0x38, 0x39], [0, 1, 2, 3, 4, 5, 6, 7], [0, 0],
      [0x48, 0x45, 0x4C, 0x4C, 0x4F]].map crc16
      = [0xFFFF, 0x40BF, 0x00FF, 0x807E, 0x603F, 0x707F, 0x5EEE, 0x34F6, 0x4B37, 0x7A46, 0xB001, 0xE165] := by
  decide +kernel

/-- CRC-14 to CRC-16. -/
theorem test_crc_step_corners : [0x00, 0x01, 0x80].map (crcStep 0) = [0x0000, 0xC0C1, 0xA001] := by decide +kernel

/-- CRC-18. -/
theorem test_crc_init : after .crcInit { State.reset with crc := 0x1234, crcOk := true }
    = { State.reset with crc := 0xFFFF, crcOk := true, out := [.ok] } := by decide
/-- R104's example. -/
theorem test_crc_byte : (after (.crcByte 0x00) State.reset).crc = 0x40BF := by decide +kernel
/-- CRC-17. -/
theorem test_crc_check_matches : readPort 0x04 (after (.crcCheck 0xFFFF) State.reset) = 0x10 := by decide
/-- CRC-19. -/
theorem test_crc_check_differs :
    after (.crcCheck 0x7F70) { State.reset with crc := 0x707F, crcOk := true }
      = { State.reset with crc := 0x707F, out := [.ok] } := by decide

/-! ## Framer (95_test_vectors 2.2) -/

/-- FR-1 to FR-5a. -/
theorem test_frame_table :
    [[], [0x41], [0x68, 0x69], [0x7E], [0x48, 0x45, 0x4C, 0x4C, 0x4F], [0x7E, 0x00, 0x00, 0xFF, 0xFF]].map frame
      = [[0x7E, 0, 0, 0xFF, 0xFF], frameA, frameHi, [0x7E, 0, 1, 0x7E, 0x60, 0x3F],
          [0x7E, 0, 5, 0x48, 0x45, 0x4C, 0x4C, 0x4F, 0xE1, 0x65],
          [0x7E, 0, 5, 0x7E, 0x00, 0x00, 0xFF, 0xFF, 0xBA, 0x0D]] := by decide +kernel

theorem test_txp_clear : after .txpClear { State.reset with txp := [1, 2, 3], txpOvf := true }
    = { State.reset with out := [.ok] } := by decide
/-- R123's example. -/
theorem test_txp_push : (after (.txpPush 0x69) { State.reset with txp := [0x68] }).txp = hi := by decide
/-- FR-6. -/
theorem test_txp_push_full : (after (.txpPush 1) { State.reset with txp := List.replicate 65535 0 }).txpOvf = true := by
  have h : (List.replicate 65535 (0 : Byte)).length = Config.txpCap := List.length_replicate
  simp only [after, exec, execTxpPush, if_pos h]
  rfl
theorem test_txf_clear : (after .txfClear { State.reset with txf := frameHi }).txf = [] := by decide
/-- FR-10. -/
theorem test_txf_clear_busy : after .txfClear { sending with txf := [1] }
    = { sending with txf := [1], err := 5, out := [.err .busy] } := rfl
theorem test_txf_push : (after (.txfPush 0x55) State.reset).txf = [0x55] := by decide
/-- FR-7: a full frame buffer. -/
theorem test_txf_push_full :
    (after (.txfPush 1) { State.reset with txf := List.replicate Config.txfCap 0 }).out = [.err .txOverflow] := by
  have h : txfFull (List.replicate Config.txfCap (0 : Byte)).length = true := by simp
  simp only [after, exec, execTxfPush, State.reset, h]
  rfl
/-- P4: the pushed byte, then the frame of the empty payload. -/
theorem test_tx_frame : (after .txFrame { State.reset with txf := [0xAA] }).txf = [0xAA, 0x7E, 0, 0, 0xFF, 0xFF] := by
  decide +kernel
/-- FR-9: BUSY comes before PAYLOAD_TOO_LARGE. -/
theorem test_tx_frame_priority :
    (after .txFrame { sending with txpOvf := true }).out = [.err .busy]
      ∧ (after .txFrame { State.reset with txpOvf := true }).out = [.err .payloadTooLarge] := by decide

/-! ## Scanner (95_test_vectors 2.3) -/

/-- SC-1 to SC-5, SC-9. -/
theorem test_scan_incomplete :
    [[], [1, 2], [0x7E], [0x7E, 0], frameHi.dropLast, [0x7E, 0xFF, 0xFF] ++ frameA].map scan
      = [([], []), ([], []), ([], [0x7E]), ([], [0x7E, 0]), ([], frameHi.dropLast),
          ([], [0x7E, 0xFF, 0xFF] ++ frameA)] := by decide +kernel

/-- SC-6 to SC-8, and SC-11's second stream. -/
theorem test_scan_complete :
    [[1, 2, 3] ++ frameA, frameHi ++ frameA, [0x7E, 0, 2, 0x69, 0x69, 0x5E, 0xEE] ++ frameA,
      [0x7E, 0, 0, 0, 0] ++ frameA].map scan
      = [([[0x41]], []), ([hi, [0x41]], []), ([[0x41]], []), ([[0x41]], [])] := by decide +kernel

/-- SC-12: the counterexample to the unconditional corruption property. -/
theorem test_scan_sc12 :
    scan ([0x7E, 0, 4, 0x7E, 0xFF, 0xFF, 1, 0xCC, 0x69] ++ frameA)
      = ([], [0x7E, 0xFF, 0xFF, 1, 0xCC, 0x69] ++ frameA) := by decide +kernel

/-- R142's example: the seventh byte of the frame of "hi". -/
theorem test_rx_byte_completes : after (.rxByte 0xEE) { State.reset with rxbuf := frameHi.dropLast }
    = { State.reset with rxm := [hi], rxmCount := 1, out := [.ok] } := by decide +kernel
/-- SC-10: the false marker fails and the scan goes on at the second marker. -/
theorem test_rx_byte_false_marker :
    (after (.rxByte 0x01) { State.reset with rxbuf := [0x7E, 0, 1, 0x7E, 0] }).rxbuf = [0x7E, 0, 1] := by
  decide +kernel

/-! ## Modulator (95_test_vectors 2.4) -/

/-- R155's example: the frame "hi". -/
theorem test_mod_start : (after .modStart { cfg8State with txf := frameHi }).modTotal = 120 := by decide
/-- MOD-1. -/
theorem test_mod_start_unconfigured : after .modStart State.reset
    = { State.reset with err := 3, out := [.err .invalidConfig] } := by decide
/-- R156: the last sample of a symbol, then the last of the transmission (MOD-6). -/
theorem test_mod_sample_symbol_end :
    ((after .modSample { sending with modN := 7, modBit := 3 }).modN,
      (after .modSample { sending with modN := 7, modBit := 3 }).modBit,
      (after .modSample { sending with modN := 7, modBit := 63 }).modDone,
      (after .modSample { sending with modN := 7, modBit := 63 }).modActive) = (0, 4, true, false) := by decide
/-- MOD-5. -/
theorem test_mod_sample_idle : readPort 0x04 (after .modSample cfg8State) = 0x601 := by decide
/-- R157's example. -/
theorem test_mod_stop : after .modStop { sending with modBit := 10 }
    = { cfg8State with modTotal := 64, modBit := 10, out := [.ok] } := rfl

/-- E-10, and 0x7E most-significant bit first. -/
theorem test_tx_bits :
    (txBits []).foldl (fun v bit => 2 * v + bit.toNat) 0 = 0x5555555555555555
      ∧ (txBits [0x7E]).drop 64 = [false, true, true, true, true, true, true, false] := by decide +kernel

/-! ## Demodulator (95_test_vectors 2.5, 2.6) -/

/-- DM-8 and DM-8a: without a configuration, and the first sample of a window. -/
theorem test_dm_sample :
    ((after (.dmSample 0) State.reset).out, (after (.dmSample 0) cfg8State).dmN) = ([.err .invalidConfig], 1) := by
  decide
/-- DM-13. -/
theorem test_dm_reset :
    after .dmReset { State.reset with
        rxbuf := [0x7E, 0, 9, 9], syncLocked := true, syncSr := 5, bpAcc := 1, bpCnt := 2, rxmCount := 7 }
      = { State.reset with rxmCount := 7, out := [.ok] } := by decide

/-- SY-1, SY-2. -/
theorem test_sync_seeking :
    (feedBits ((txBits []).take 4) State.reset).syncSr = 0x5
      ∧ (feedBits ((txBits []).take 63) State.reset).syncSr = 0x2AAAAAAAAAAAAAAA := by decide +kernel

/-- SY-4 to SY-7: with k preamble symbols lost, whether the receiver locks by the end of the marker, and what the packer
then holds. -/
theorem test_sync_preamble_loss :
    [0, 1, 2, 3, 4].map (fun k =>
        let s := feedBits ((txBits [0x7E]).drop k) State.reset
        (s.syncLocked, s.rxbuf.length, s.bpCnt, s.bpAcc))
      = [(true, 1, 0, 0), (true, 1, 0, 0), (true, 0, 6, 62), (true, 0, 6, 62), (false, 0, 0, 0)] := by decide +kernel

/-- The samples of MOD-7, the coefficients of CFG-6, as bit patterns. -/
def f1Symbol : List DWord :=
  [0x0, 0x3FF0000000000000, 0x3CA1A62633145C07, 0xBFF0000000000000, 0xBCB1A62633145C07, 0x3FF0000000000000,
    0x3CBA79394C9E8A0A, 0xBFF0000000000000]
def f0Symbol : List DWord :=
  [0x0, 0x3FE6A09E667F3BCC, 0x3FF0000000000000, 0x3FE6A09E667F3BCD, 0x3CA1A62633145C07, 0xBFE6A09E667F3BCC,
    0xBFF0000000000000, 0xBFE6A09E667F3BCE]
/-- A library whose cos and sin are read off CFG-6 and MOD-7 at the arguments those use, 0 elsewhere. -/
def lib8 : LibM :=
  { sin := fun x => if x = 0x3FF921FB54442D18 then 0x3FF0000000000000 else 0
    cos := fun x => if x = 0x3FF921FB54442D18 then 0x3C91A62633145C07 else 0x3FE6A09E667F3BCD }
def num8 : NumOps DWord := binary64 lib8

/-- DM-1 and DM-2: the powers 1.3684604693204769e-31, 16.0, 16.000000000000007 and 6.162975822039155e-32. -/
theorem test_window_powers :
    (windowPower num8 (num8.coeff 1 8) f1Symbol, windowPower num8 (num8.coeff 2 8) f1Symbol,
      windowPower num8 (num8.coeff 1 8) f0Symbol, windowPower num8 (num8.coeff 2 8) f0Symbol)
      = (0x3986345CC607CE12, 0x4030000000000000, 0x4030000000000002, 0x3974000000000000) := by decide +kernel

/-- DM-1 to DM-6: F1, F0, silence, eight 1.0, an impulse, a NaN. -/
theorem test_window_bits :
    [f1Symbol, f0Symbol, List.replicate 8 0, List.replicate 8 0x3FF0000000000000,
      0x3FF0000000000000 :: List.replicate 7 0, 0x7FF8000000000000 :: f1Symbol.tail].map
        (windowBit num8 (num8.coeff 1 8) (num8.coeff 2 8))
      = [true, false, false, true, true, false] := by decide +kernel

/-- R156's example, in binary64: F1 at n = 1 under cfg8 is 1.0. -/
theorem test_symbol_sample : symbolSample num8 cfg8 true 1 = 0x3FF0000000000000 := by decide +kernel

/-- R179's example on the machine's own operation, with the binary64 record by name: SYNC_SR becomes 1. -/
theorem test_take_sample_window :
    (feedSamples (byName num8) (f1Symbol.map (byName num8).decode)
      { cfg8State with coeff0 := (byName num8).coeff 1 8, coeff1 := (byName num8).coeff 2 8 }).syncSr = 1 := by
  decide +kernel

/-! ## Control (95_test_vectors 2.7) -/

theorem test_nop : after .nop cfg8State = { cfg8State with out := [.ok] } := rfl
/-- R201's example. -/
theorem test_stat_clr : readPort 0x04 (after .statClr { cfg8State with err := 6, modDone := true }) = 0x1 := by decide
/-- CFG-4: staging does not touch the active register. -/
theorem test_cfg_wr :
    (readPort 0x4C (after (.cfgWr 3 1) cfg8State), readPort 0x6C (after (.cfgWr 3 1) cfg8State)) = (1, 2) := by decide
theorem test_cfg_wr_bad_selector : (after (.cfgWr 5 1) State.reset).out = [.err .illegal] := by decide
/-- CFG-5. -/
theorem test_cfg_commit :
    ((after .cfgCommit { State.reset with cfgs := cfg8, rxbuf := [0x7E] }).rxbuf,
      readPort 0x18 (after .cfgCommit { State.reset with cfgs := cfg8 })) = ([], 8) := by decide
/-- CFG-3: F0 = F1, SR = 0, SYM = 0, AMP = 65537; CFG-1d: SPS = 0. -/
theorem test_cfg_commit_invalid :
    [{ cfg8 with f1 := 1 }, { cfg8 with sr := 0 }, { cfg8 with sym := 0 }, { cfg8 with amp := 65537 },
      { cfg8 with sr := 1, sym := 3 }].map (fun c => after .cfgCommit { State.reset with cfgs := c })
      = [{ cfg8 with f1 := 1 }, { cfg8 with sr := 0 }, { cfg8 with sym := 0 }, { cfg8 with amp := 65537 },
          { cfg8 with sr := 1, sym := 3 }].map
          (fun c => { State.reset with cfgs := c, err := 3, out := [.err .invalidConfig] }) := by decide

/-- CFG-1a to CFG-1m. -/
theorem test_sps_table :
    [spsOf 48000 100, spsOf 44100 300, spsOf 10 4, spsOf 1 3, spsOf 1 2, spsOf 7 2, spsOf 8000 3, spsOf 5 2, spsOf 8 1,
      spsOf 1 1, spsOf 4294967295 1, spsOf 4294967295 4294967295, spsOf 1 4294967295]
      = [480, 147, 3, 0, 1, 4, 2667, 3, 8, 1, 4294967295, 1, 0] := by decide +kernel

/-! ## Read port (2.8) and the written form (R88, R89) -/

/-- From reset, and a read at 0x41 to 0x43 is the word at 0x40. -/
theorem test_reads :
    (readPort 0x00 State.reset, readPort 0x08 State.reset, readPort 0x7C State.reset)
        = (0x574E0001, 0xFFFF, 0)
      ∧ [0x40, 0x41, 0x42, 0x43].map (readPort · cfg8State) = [8, 8, 8, 8] := by decide

/-- R70: a read waits for the commands written before it, and not for one whose words have not all arrived (R80). -/
theorem test_read_after_write :
    (readPort 0x08 (hostWrite [0x02000000] State.reset), readPort 0x40 (hostWrite [0x80000000, 0] State.reset),
      readPort 0x40 (hostWrite [0x80000000, 0, 8] State.reset)) = (0x40BF, 0, 8) := by decide +kernel

/-- `CFG_WR F1, 2400 ; tone` and `CRC_BYTE 'A'`. -/
theorem test_assemble :
    assembleLine (fun _ => none) "CFG_WR F1, 2400 ; tone".toList = some [.cfgWr 3 2400]
      ∧ assembleLine (fun _ => none) "CRC_BYTE 'A'".toList = some [.crcByte 0x41]
      ∧ assembleLine (fun _ => none) "RX_BYTES 0x7E, 1".toList = some [.rxByte 0x7E, .rxByte 1] := by decide +kernel

/-! ## Witnesses: a state and operands that meet the hypotheses of each statement that has any -/

theorem test_witness_DecodeEncodeRoundTrip : (Instr.cfgWr 4 7).wf = true := by decide
theorem test_witness_DecodedWordsAreTheEncoding :
    decodePort [0x02000041, 5] = some (.cmd (.crcByte 0x41), [5]) := by decide
theorem test_witness_IllegalCommandRaises :
    takeCommand [0x04000000, 7] = some (0x04000000, 0, [7])
      ∧ decodeWord 0x04000000 0 = .illegal .unassignedOpcode := by decide
theorem test_witness_CommandsAreCutByBit31 :
    (0x7FFFFFFF : Word).getLsbD 31 = false ∧ (0x80000000 : Word).getLsbD 31 = true
      ∧ ({ State.reset with port := [0x80000000] } : State).resetIn = false
      ∧ ({ State.reset with port := [0x80000000] } : State).port = [0x80000000] ∧ State.reset.port = [] := by decide
theorem test_witness_StepRunsDecodedCommand :
    ({ State.reset with port := [0x02000041, 5] } : State).port = encode (.crcByte 0x41) ++ [5]
      ∧ (Instr.crcByte 0x41).wf = true ∧ State.reset.resetIn = false := by decide
theorem test_witness_RunExecutesCommandsInOrder :
    ({ State.reset with port := [0x02000041, 0x21000000, 5] } : State).port
        = assembleWords [.crcByte 0x41, .modSample] ++ [5]
      ∧ ∀ i ∈ [Instr.crcByte 0x41, .modSample], i.wf = true := by decide
theorem test_witness_OneOutcomePerCommand :
    decodePort [0x04000000] = some (.illegal .unassignedOpcode, [])
      ∧ decodePort [0x00000000] = some (.cmd .nop, []) := by decide
theorem test_witness_ErrorChangesOnlyErr :
    exec .modSample State.reset = .next (after .modSample State.reset)
      ∧ (after .modSample State.reset).out = State.reset.out ++ [.err .modIdle] := ⟨rfl, by decide⟩
theorem test_witness_ErrorsAreRaisedAsListed : (Instr.txfPush 0).wf = true := by decide
theorem test_witness_OutputStreamsOnlyGrow :
    step { State.reset with port := [0x00000000] } = .next { State.reset with out := [.ok] } := by rfl
/-- A sending block: every premise of R43 (a) holds here. -/
theorem test_witness_StepKeepsInvariant : sending.Inv ∧ step sending = .next sending := by
  exact ⟨⟨fun _ => rfl, fun _ => by decide, fun _ => by decide, fun _ => rfl, fun _ => by decide,
    fun h => absurd h (by decide), by decide, fun _ => ⟨rfl, rfl⟩, .inl rfl, Nat.zero_le _, fun h => absurd h (by decide), by decide,
    Nat.zero_le _, Nat.zero_le _, fun _ => by decide, fun _ => by decide, fun _ => ⟨rfl, rfl⟩, by decide⟩, rfl⟩
theorem test_witness_HardwareResetKeepsOutputs :
    ({ sending with resetIn := true } : State).resetIn = true := rfl
theorem test_witness_ReadsSeeWrittenCommands :
    (∀ i ∈ [Instr.crcByte 0, .modSample], i.wf = true)
      ∧ (settle { State.reset with port := [0x02000041] }).port = [] := by decide +kernel
/-- Two commands wait: a read before the first step and one after it. -/
theorem test_witness_ReadsAreConsistentBetweenWrites :
    Sys2Proof.core.run 1 { State.reset with port := [0x02000000, 0x01000000] }
      = .next { State.reset with port := [0x01000000], crc := 0x40BF, out := [.ok] } := by
  have h : step { State.reset with port := [0x02000000, 0x01000000] }
      = .next { State.reset with port := [0x01000000], crc := 0x40BF, out := [.ok] } := by rfl
  simp only [Host.Core.run, Sys2Proof.core, h]
theorem test_witness_CrcUnitIsIndependent :
    exec (.rxByte 1) State.reset = .next (after (.rxByte 1) State.reset)
      ∧ (Instr.rxByte 1 ≠ .crcInit ∧ (∀ b, Instr.rxByte 1 ≠ .crcByte b) ∧ ∀ v, Instr.rxByte 1 ≠ .crcCheck v) :=
  ⟨rfl, by simp⟩
theorem test_witness_TxpCommandResults :
    ({ State.reset with txp := List.replicate 65535 0 } : State).txp.length = 65535
      ∧ ({ State.reset with txp := List.replicate 65534 0 } : State).txp.length ≠ 65535 := by
  simp only [List.length_replicate, ne_eq]
  decide
theorem test_witness_TxfCommandResults :
    State.reset.modActive = false ∧ State.reset.txf.length ≠ Config.txfCap ∧ State.reset.txpOvf = false
      ∧ State.reset.txf.length + State.reset.txp.length + 5 ≤ Config.txfCap := by
  have h := txfCap_bounds
  simp only [State.reset, List.length_nil, true_and]
  omega
theorem test_witness_TxfCommandErrors :
    sending.modActive = true
      ∧ ({ State.reset with txf := List.replicate Config.txfCap 0 } : State).txf.length = Config.txfCap
      ∧ ({ State.reset with txpOvf := true } : State).txpOvf = true
      ∧ Config.txfCap < ({ State.reset with txf := List.replicate (Config.txfCap - 4) 0 } : State).txf.length
          + ({ State.reset with txf := List.replicate (Config.txfCap - 4) 0 } : State).txp.length + 5 := by
  have h := txfCap_bounds
  simp only [sending, State.reset, List.length_replicate, List.length_nil, true_and]
  omega
theorem test_witness_FramerLaws : hi.length ≤ 65535 ∧ (List.replicate 65535 (0 : Byte)).length ≤ 65535 := by
  simp only [List.length_replicate]
  decide
theorem test_witness_ScanEndsWithinPasses : hi.length < 3 := by decide
theorem test_witness_ScanIsChunkIndependent : State.reset.rxbuf = [] := rfl
/-- Garbage, and E-6's corrupted frame: no marker after its first byte. -/
theorem test_witness_ScannerTestableProperties :
    (0x7E : Byte) ∉ ([1, 2, 3] : Bytes)
      ∧ (0x7E : Byte) ∉ ((frame ([] ++ 0x68 :: [0x69])).set (3 + ([] : Bytes).length) (0x68 ^^^ (1#8 <<< 0))).tail := by
  decide +kernel
theorem test_witness_FalseMarkerHoldsBack :
    (0x7E : Byte) ∉ ([1] : Bytes) ∧ frameA.length < (0xFF : Byte).toNat * 256 + (0xFF : Byte).toNat + 2 := by decide
theorem test_witness_ModStartStopResults : cfg8State.cfgValid = true ∧ State.reset.cfgValid = false := ⟨rfl, rfl⟩
theorem test_witness_ModSampleResult : State.reset.modActive = false ∧ sending.modActive = true := ⟨rfl, rfl⟩
theorem test_witness_TransmissionEmitsEncode :
    cfg8State.cfgValid = true ∧ 1 ≤ cfg8State.sps.toNat ∧ cfg8State.txf.length ≤ 536870903 := by decide
theorem test_witness_SampleCountersAfterK :
    cfg8State.cfgValid = true ∧ cfg8State.txf.length ≤ 536870903
      ∧ 511 < (64 + 8 * cfg8State.txf.length) * cfg8State.sps.toNat := by decide
theorem test_witness_ModulatorReadsNothingElse :
    sending.txf = { sending with crc := 0, dmN := 3 }.txf
      ∧ exec .modSample sending = .next (after .modSample sending)
      ∧ exec .modSample { sending with crc := 0, dmN := 3 } = .next (after .modSample { sending with crc := 0, dmN := 3 }) :=
  ⟨rfl, rfl, rfl⟩
theorem test_witness_DmSampleResult :
    cfg8State.cfgValid = true ∧ cfg8State.dmN.toNat + 1 < cfg8State.sps.toNat
      ∧ { cfg8State with dmN := 7 }.sps.toNat ≤ { cfg8State with dmN := 7 }.dmN.toNat + 1
      ∧ State.reset.cfgValid = false := by decide
theorem test_witness_SyncBitResult :
    State.reset.syncLocked = false ∧ BitVec.ofNat 64 (2 * State.reset.syncSr.toNat + true.toNat) ≠ 0x5555555555555555
      ∧ BitVec.ofNat 64 (2 * { State.reset with syncSr := 0x2AAAAAAAAAAAAAAA }.syncSr.toNat + true.toNat)
          = 0x5555555555555555
      ∧ { State.reset with syncLocked := true }.syncLocked = true := by decide
theorem test_witness_PackBitResult :
    State.reset.bpCnt ≠ 7 ∧ { State.reset with bpCnt := 7 }.bpCnt = 7 := by decide
theorem test_witness_WindowEqualsBufferedWindow :
    cfg8State.q10 = Config.num.nzero ∧ cfg8State.q20 = Config.num.nzero ∧ cfg8State.q11 = Config.num.nzero
      ∧ cfg8State.q21 = Config.num.nzero ∧ cfg8State.dmN = 0 ∧ cfg8State.cfgValid = true
      ∧ List.replicate 8 (Config.num.decode 0) ≠ []
      ∧ (List.replicate 8 (Config.num.decode 0)).length = cfg8State.sps.toNat := by
  refine ⟨rfl, rfl, rfl, rfl, rfl, rfl, ?_, ?_⟩
  · simp
  · simp [cfg8State]
theorem test_witness_LockedBitsDeliverBytes :
    { cfg8State with syncLocked := true }.syncLocked = true ∧ { cfg8State with syncLocked := true }.bpAcc = 0
      ∧ { cfg8State with syncLocked := true }.bpCnt = 0 := ⟨rfl, rfl, rfl⟩
theorem test_witness_LockAtLastPreambleBit : State.reset.syncLocked = false ∧ State.reset.syncSr = 0 := ⟨rfl, rfl⟩
theorem test_witness_TransmittedBitsRecoverPayload :
    hi.length ≤ 65535 ∧ State.reset.syncLocked = false ∧ State.reset.syncSr = 0 ∧ State.reset.rxbuf = [] := by decide
/-- cfg8: k0 = 1 and k1 = 2. -/
theorem test_witness_ExactRealWindowsDecideRight :
    1 ≤ cfg8.sr.toNat ∧ 1 ≤ cfg8.amp.toNat ∧ 8 < 2 ^ 32 ∧ cfg8.f0.toNat * 8 = 1 * cfg8.sr.toNat
      ∧ cfg8.f1.toNat * 8 = 2 * cfg8.sr.toNat ∧ 2 * 1 < 8 ∧ 2 * 2 < 8 ∧ (1 : Nat) ≠ 2 := by decide

/-- A record in which a sample is its tone's frequency and a detector answers its own tone: enough for every window of
one sample to give the bit sent. -/
def toyNum : NumOps NumVal where
  nzero := ⟨0⟩
  nadd := fun _ b => b
  nsub := fun _ b => b
  nmul := fun a b => if b.id = 0 then a else ⟨if a.id = b.id then 1 else 0⟩
  ngt := fun a b => decide (b.id < a.id)
  coeff := fun f _ => ⟨f.toNat⟩
  tone := fun _ f _ _ => ⟨f.toNat⟩
  decode := fun d => ⟨d.toNat⟩
  encode := fun x => BitVec.ofNat 64 x.id
/-- cfg8's tones with one sample a symbol. -/
def toyState : State := { cfg8State with sps := 1, coeff0 := ⟨1⟩, coeff1 := ⟨2⟩ }
theorem test_witness_LoopbackRecoversPayload :
    hi.length ≤ 65535 ∧ toyState.syncLocked = false ∧ toyState.syncSr = 0 ∧ toyState.rxbuf = [] ∧ toyState.dmN = 0
      ∧ 1 ≤ toyState.sps.toNat ∧ toyState.q10 = toyNum.nzero ∧ toyState.q20 = toyNum.nzero
      ∧ toyState.q11 = toyNum.nzero ∧ toyState.q21 = toyNum.nzero
      ∧ (∀ bit, windowBit toyNum toyState.coeff0 toyState.coeff1
          (symbolSamples toyNum toyState.act toyState.sps.toNat bit) = bit)
      ∧ ∀ w ∈ [[NumVal.mk 1], [NumVal.mk 5]], w.length = toyState.sps.toNat
          ∧ windowBit toyNum toyState.coeff0 toyState.coeff1 w = false := by decide
theorem test_witness_ReceiverIgnoresTransmitter :
    exec (.dmSample 0) cfg8State = .next (after (.dmSample 0) cfg8State) ∧ cfg8State.cfgValid = true := ⟨rfl, rfl⟩
theorem test_witness_HousekeepingResults : 5 ≤ (5 : Byte).toNat := by decide
/-- A valid tuple at the bounds SPS = 1 and AMP = 65536, and an invalid one just past AMP's. -/
theorem test_witness_CfgCommitResult :
    (1 ≤ (1 : Word).toNat ∧ (2 * (1 : Word).toNat + (2 : Word).toNat) / (2 * (2 : Word).toNat) = 1
      ∧ (65536 : Word).toNat ≤ 65536) ∧ ¬ (65537 : Word).toNat ≤ 65536 := by decide
theorem test_witness_SpsIsRoundedQuotient : 1 ≤ (4 : Word).toNat := by decide
/-- A commit that succeeds, one that fails, a step under a configuration, and a commit that changes the active one. -/
theorem test_witness_ConfigurationLaws :
    (after .cfgCommit cfg8State).out = cfg8State.out ++ [.ok]
      ∧ (after .cfgCommit State.reset).out ≠ State.reset.out ++ [.ok]
      ∧ step cfg8State = .next cfg8State ∧ cfg8State.resetIn = false ∧ cfg8State.cfgValid = true
      ∧ (after .cfgCommit { State.reset with cfgs := cfg8 }).act ≠ ({ State.reset with cfgs := cfg8 } : State).act :=
  ⟨by decide, by decide, rfl, rfl, rfl, by decide⟩

end Sys2Proof.Tests
end

/-! # Proofs of the scope statements (00_scope R12, R14): the decoder against the encoder, one step, a run, and
the output streams. -/

namespace Sys2Proof

/-! ## The decoder on built words (30_encoding R81 to R84) -/

/-- A field within W[23:0] of a built word is that field of the operand. -/
theorem extractLsb'_commandWord (opc : Byte) (operand : BitVec 24) (start len : Nat) (h : start + len ≤ 24) :
    (commandWord opc operand).extractLsb' start len = operand.extractLsb' start len := by
  rw [← BitVec.extractLsb'_extractLsb'_of_le h]
  exact congrArg (BitVec.extractLsb' start len) (low24Of_commandWord opc operand)

@[simp] theorem decodePlain_commandWord (opc : Byte) (i : Instr) : decodePlain (commandWord opc 0#24) i = .cmd i := by
  simp [decodePlain]

@[simp] theorem decodeByteOp_commandWord (opc b : Byte) (mk : Byte → Instr) :
    decodeByteOp (commandWord opc (b.setWidth 24)) mk = .cmd (mk b) := by
  have habove : aboveByteOf (commandWord opc (b.setWidth 24)) = 0 := by
    rw [aboveByteOf, extractLsb'_commandWord _ _ _ _ (by omega)]
    ext; simp
  have himml : immlOf (commandWord opc (b.setWidth 24)) = b := by
    rw [immlOf, extractLsb'_commandWord _ _ _ _ (by omega), BitVec.extractLsb'_setWidth_of_le (by omega),
      BitVec.extractLsb'_eq_self]
  rw [decodeByteOp, if_pos habove, himml]

@[simp] theorem decodeCrcCheck_commandWord (opc : Byte) (v : Half) :
    decodeCrcCheck (commandWord opc (v.setWidth 24)) = .cmd (.crcCheck v) := by
  have hsel : selOf (commandWord opc (v.setWidth 24)) = 0 := by
    rw [selOf, extractLsb'_commandWord _ _ _ _ (by omega)]
    ext; simp
  have himm : immOf (commandWord opc (v.setWidth 24)) = v := by
    rw [immOf, extractLsb'_commandWord _ _ _ _ (by omega), BitVec.extractLsb'_setWidth_of_le (by omega),
      BitVec.extractLsb'_eq_self]
  rw [decodeCrcCheck, if_pos hsel, himm]

theorem decodeCfgWr_commandWord (opc sel : Byte) (value : Word) (h : selectorLegal sel = true) :
    decodeCfgWr (commandWord opc (sel.setWidth 24 <<< 16)) (value.setWidth 64) = .cmd (.cfgWr sel value) := by
  have hsel : selOf (commandWord opc (sel.setWidth 24 <<< 16)) = sel := by
    rw [selOf, extractLsb'_commandWord _ _ _ _ (by omega)]
    ext k hk
    have hk24 : k < 24 ∧ 16 + k < 24 := by omega
    simp [hk24, BitVec.getLsbD_eq_getElem hk]
  have himm : immOf (commandWord opc (sel.setWidth 24 <<< 16)) = 0 := by
    rw [immOf, extractLsb'_commandWord _ _ _ _ (by omega)]
    ext k hk
    simp [hk]
  have hhigh : dataHigh (value.setWidth 64) = 0 := by
    rw [dataHigh]
    ext; simp
  have hlow : dataLow (value.setWidth 64) = value := by
    rw [dataLow, BitVec.extractLsb'_setWidth_of_le (by omega), BitVec.extractLsb'_eq_self]
  rw [decodeCfgWr, hsel, if_pos h, if_pos ⟨himm, hhigh⟩, hlow]

/-- A built word whose opcode has bit 7 clear is a command alone (R80). -/
theorem decodePort_commandWord (opc : Byte) (operand : BitVec 24) (rest : List Word) (h : opc.msb = false) :
    decodePort ([commandWord opc operand] ++ rest) = some (decodeWord (commandWord opc operand) 0, rest) := by
  simp [decodePort, takeCommand_single, h]

/-- A built word whose opcode has bit 7 set takes its data word (R80, R82). -/
theorem decodePort_withData (opc : Byte) (operand : BitVec 24) (d : DWord) (rest : List Word) (h : opc.msb = true) :
    decodePort (withData (commandWord opc operand) d ++ rest) = some (decodeWord (commandWord opc operand) d, rest) := by
  simp [decodePort, withData, takeCommand_data, h]

/-- The decoder reads back what the encoder wrote, whatever follows it on the port (R84, R85). -/
theorem decodePort_encode (i : Instr) (rest : List Word) (hwf : i.wf = true) :
    decodePort (encode i ++ rest) = some (.cmd i, rest) := by
  cases i with
  | cfgWr sel value =>
    rw [encode, decodePort_withData _ _ _ _ rfl]
    simp [decodeWord, decodeCfgWr_commandWord 0x80#8 sel value hwf]
  | dmSample d =>
    rw [encode, decodePort_withData _ _ _ _ rfl]
    simp [decodeWord]
  | _ =>
    rw [encode, decodePort_commandWord _ _ _ rfl]
    simp [decodeWord]

end Sys2Proof

namespace Sys2Proof.Machine

/-! ## What one step does (00_scope R12, 70_reset_and_hazards R250) -/

theorem step_of_reset (s : State) (h : s.resetIn = true) : step s = .next (hardwareReset s) := by
  simp [step, h]

theorem step_of_waiting (s : State) (h : s.resetIn = false) (hport : decodePort s.port = none) :
    step s = .next s := by
  simp [step, h, hport]

theorem step_of_command (s : State) (i : Instr) (rest : List Word) (h : s.resetIn = false)
    (hport : decodePort s.port = some (.cmd i, rest)) : step s = exec i (setPort rest s) := by
  simp [step, h, hport]

theorem step_of_illegal (s : State) (why : Illegal) (rest : List Word) (h : s.resetIn = false)
    (hport : decodePort s.port = some (.illegal why, rest)) : step s = raise .illegal (setPort rest s) := by
  simp [step, h, hport]

/-- Settles O7, by the decoder reading back the encoding. -/
theorem stepRunsDecodedCommand : Obligations.StepRunsDecodedCommand := by
  intro s i rest hreset hwf hport
  exact step_of_command s i rest hreset (by rw [hport, decodePort_encode i rest hwf])

/-! ## What the body of a completing command can do to the inputs and the streams

A command ends by `complete u` or by `raise`. `CommandEffect s u` says how the state `u` stands to the state `s` the
command began in, the outcome not yet appended. -/

/-- The inputs and OUT stay; TXS and RXM may grow at their ends. -/
structure CommandEffect (s u : State) : Prop where
  port_eq : u.port = s.port
  resetIn_eq : u.resetIn = s.resetIn
  out_eq : u.out = s.out
  txs_prefix : s.txs <+: u.txs
  rxm_prefix : s.rxm <+: u.rxm

/-- An update of other fields has no effect on the inputs and the streams. -/
theorem CommandEffect.of_eq {s u : State} (hport : u.port = s.port := by rfl)
    (hreset : u.resetIn = s.resetIn := by rfl) (hout : u.out = s.out := by rfl) (htxs : u.txs = s.txs := by rfl)
    (hrxm : u.rxm = s.rxm := by rfl) : CommandEffect s u :=
  ⟨hport, hreset, hout, htxs ▸ List.prefix_rfl, hrxm ▸ List.prefix_rfl⟩

theorem CommandEffect.trans {s t u : State} (h : CommandEffect s t) (h' : CommandEffect t u) : CommandEffect s u where
  port_eq := h'.port_eq.trans h.port_eq
  resetIn_eq := h'.resetIn_eq.trans h.resetIn_eq
  out_eq := h'.out_eq.trans h.out_eq
  txs_prefix := h.txs_prefix.trans h'.txs_prefix
  rxm_prefix := h.rxm_prefix.trans h'.rxm_prefix

theorem commandEffect_emitSample (num : NumOps NumVal) (x : NumVal) (s : State) :
    CommandEffect s (emitSample num x s) :=
  ⟨rfl, rfl, rfl, List.prefix_append _ _, List.prefix_rfl⟩

theorem commandEffect_advanceModulator (s : State) : CommandEffect s (advanceModulator s) := by
  obtain ⟨n, b, heq, -⟩ := advanceModulator_cases s
  rw [heq]
  exact .of_eq

theorem commandEffect_rxAppend (b : Byte) (s : State) : CommandEffect s (rxAppend b s) :=
  ⟨rfl, rfl, rfl, List.prefix_rfl, List.prefix_append _ _⟩

theorem commandEffect_packBit (bit : Bool) (s : State) : CommandEffect s (packBit bit s) := by
  obtain ⟨-, heq⟩ | ⟨-, heq⟩ := packBit_cases bit s <;> rw [heq]
  · exact .trans .of_eq (commandEffect_rxAppend _ _)
  · exact .of_eq

theorem commandEffect_syncBit (bit : Bool) (s : State) : CommandEffect s (syncBit bit s) := by
  obtain ⟨-, heq⟩ | ⟨-, -, heq⟩ | ⟨-, -, heq⟩ := syncBit_cases bit s <;> rw [heq]
  · exact commandEffect_packBit bit s
  · exact .of_eq
  · exact .of_eq

theorem commandEffect_takeSample (num : NumOps NumVal) (x : NumVal) (s : State) :
    CommandEffect s (takeSample num x s) := by
  obtain ⟨-, heq⟩ | ⟨-, heq⟩ := takeSample_cases num x s <;> rw [heq]
  · exact .of_eq
  · exact .trans .of_eq (commandEffect_syncBit _ _)

/-! ## The words on the port play no part in a command (20_memory R73) -/

theorem setPort_self (s : State) : setPort s.port s = s := rfl

theorem advanceModulator_setPort (ws : List Word) (s : State) :
    advanceModulator (setPort ws s) = setPort ws (advanceModulator s) := by
  by_cases hlast : s.modN.toNat + 1 < s.sps.toNat
  · by_cases hdone : s.modBit = s.modTotal <;> simp [advanceModulator, hlast, hdone] <;> rfl
  · by_cases hdone : s.modBit + 1#32 = s.modTotal <;> simp [advanceModulator, hlast, hdone] <;> rfl

theorem packBit_setPort (bit : Bool) (ws : List Word) (s : State) :
    packBit bit (setPort ws s) = setPort ws (packBit bit s) := by
  rw [packBit, packBit, apply_ite (setPort ws)]; rfl

theorem syncBit_setPort (bit : Bool) (ws : List Word) (s : State) :
    syncBit bit (setPort ws s) = setPort ws (syncBit bit s) := by
  simp only [syncBit, packBit_setPort, apply_ite (setPort ws)]; rfl

theorem takeSample_setPort (num : NumOps NumVal) (x : NumVal) (ws : List Word) (s : State) :
    takeSample num x (setPort ws s) = setPort ws (takeSample num x s) := by
  rw [takeSample, takeSample, apply_ite (setPort ws), ← syncBit_setPort]; rfl

/-! ## What one command does -/

/-- All that a command can do, whatever words stand on the port: it raises an error, or it completes with an effect
on the inputs and streams as `CommandEffect` has it (R220, R222). -/
theorem exec_setPort_cases (i : Instr) (s : State) :
    (∃ e, ∀ ws, exec i (setPort ws s) = raise e (setPort ws s))
      ∨ ∃ u, CommandEffect s u ∧ ∀ ws, exec i (setPort ws s) = complete (setPort ws u) := by
  cases i with
  | nop => exact .inr ⟨s, .of_eq, fun _ => rfl⟩
  | crcInit => exact .inr ⟨{ s with crc := 0xFFFF#16 }, .of_eq, fun _ => rfl⟩
  | crcByte b => exact .inr ⟨{ s with crc := crcStep s.crc b }, .of_eq, fun _ => rfl⟩
  | crcCheck v => exact .inr ⟨{ s with crcOk := crcMatches s.crc v }, .of_eq, fun _ => rfl⟩
  | statClr => exact .inr ⟨acknowledge s, .of_eq, fun _ => rfl⟩
  | txpClear => exact .inr ⟨{ s with txp := [], txpOvf := false }, .of_eq, fun _ => rfl⟩
  | txpPush b =>
    by_cases hfull : s.txp.length = Config.txpCap
    · exact .inr ⟨{ s with txpOvf := true }, .of_eq, fun _ => if_pos hfull⟩
    · exact .inr ⟨{ s with txp := s.txp ++ [b] }, .of_eq, fun _ => if_neg hfull⟩
  | txfClear =>
    by_cases hbusy : s.modActive = true
    · exact .inl ⟨.busy, fun _ => if_pos hbusy⟩
    · exact .inr ⟨{ s with txf := [] }, .of_eq, fun _ => if_neg hbusy⟩
  | txfPush b =>
    by_cases hbusy : s.modActive = true
    · exact .inl ⟨.busy, fun _ => if_pos hbusy⟩
    by_cases hfull : txfFull s.txf.length = true
    · exact .inl ⟨.txOverflow, fun _ => (if_neg hbusy).trans (if_pos hfull)⟩
    · exact .inr ⟨{ s with txf := s.txf ++ [b] }, .of_eq, fun _ => (if_neg hbusy).trans (if_neg hfull)⟩
  | txFrame =>
    by_cases hbusy : s.modActive = true
    · exact .inl ⟨.busy, fun _ => if_pos hbusy⟩
    by_cases hlarge : s.txpOvf = true
    · exact .inl ⟨.payloadTooLarge, fun _ => (if_neg hbusy).trans (if_pos hlarge)⟩
    by_cases hover : txfOverflows (s.txf.length + (frame s.txp).length) = true
    · exact .inl ⟨.txOverflow, fun _ => (if_neg hbusy).trans ((if_neg hlarge).trans (if_pos hover))⟩
    · exact .inr ⟨{ s with txf := s.txf ++ frame s.txp }, .of_eq,
        fun _ => (if_neg hbusy).trans ((if_neg hlarge).trans (if_neg hover))⟩
  | modStart =>
    by_cases hvalid : s.cfgValid = true
    · exact .inr ⟨{ s with modBit := 0#32, modN := 0#32, modTotal := BitVec.ofNat 32 (txBitCount s.txf),
                           modActive := true, modDone := false }, .of_eq, fun _ => if_pos hvalid⟩
    · exact .inl ⟨.invalidConfig, fun _ => if_neg hvalid⟩
  | modSample =>
    by_cases hactive : s.modActive = true
    · refine .inr ⟨advanceModulator (emitSample Config.num (dueSample Config.num s) s),
        (commandEffect_emitSample _ _ _).trans (commandEffect_advanceModulator _), fun ws => ?_⟩
      rw [← advanceModulator_setPort]
      exact if_pos hactive
    · exact .inl ⟨.modIdle, fun _ => if_neg hactive⟩
  | modStop => exact .inr ⟨{ s with modActive := false }, .of_eq, fun _ => rfl⟩
  | dmReset => exact .inr ⟨clearReceiver Config.num s, .of_eq, fun _ => rfl⟩
  | rxByte b => exact .inr ⟨rxAppend b s, commandEffect_rxAppend b s, fun _ => rfl⟩
  | cfgCommit =>
    by_cases hlegal : cfgLegal s.cfgs = true
    · exact .inr ⟨activate Config.num s.cfgs s, .of_eq, fun _ => if_pos hlegal⟩
    · exact .inl ⟨.invalidConfig, fun _ => if_neg hlegal⟩
  | cfgWr sel value =>
    cases hwrite : cfgsWrite sel.toNat value s.cfgs with
    | none => exact .inl ⟨.illegal, fun _ => by simp [exec, execCfgWr, hwrite]⟩
    | some c => exact .inr ⟨{ s with cfgs := c }, .of_eq, fun _ => by simp [exec, execCfgWr, hwrite]; rfl⟩
  | dmSample d =>
    by_cases hvalid : s.cfgValid = true
    · refine .inr ⟨takeSample Config.num (sampleOperand Config.num d) s, commandEffect_takeSample _ _ _, fun ws => ?_⟩
      rw [← takeSample_setPort]
      exact if_pos hvalid
    · exact .inl ⟨.invalidConfig, fun _ => if_neg hvalid⟩

/-- A command raises an error or completes (R220). -/
theorem exec_cases (i : Instr) (s : State) :
    (∃ e, exec i s = raise e s) ∨ ∃ u, CommandEffect s u ∧ exec i s = complete u := by
  obtain ⟨e, h⟩ | ⟨u, heff, h⟩ := exec_setPort_cases i s
  · exact .inl ⟨e, h s.port⟩
  · refine .inr ⟨u, heff, (h s.port).trans ?_⟩
    rw [← heff.port_eq, setPort_self]

/-- A command answers a next state, which keeps the inputs, and it answers the same over other words on the port. -/
theorem exec_next (i : Instr) (s : State) :
    ∃ t, exec i s = .next t ∧ t.port = s.port ∧ t.resetIn = s.resetIn
      ∧ ∀ ws, exec i (setPort ws s) = .next (setPort ws t) := by
  obtain ⟨e, h⟩ | ⟨u, heff, h⟩ := exec_setPort_cases i s
  · exact ⟨raised e s, h s.port, rfl, rfl, h⟩
  · refine ⟨appendOutcome .ok u, (h s.port).trans ?_, heff.port_eq, heff.resetIn_eq, h⟩
    rw [← heff.port_eq, setPort_self]
    rfl

/-! ## A run over encoded commands -/

theorem run_succ_of_next (k : Nat) (s t : State) (h : step s = .next t) :
    Sys2Proof.core.run (k + 1) s = Sys2Proof.core.run k t := by
  simp only [Host.Core.run, Sys2Proof.core, h]

theorem execAll_cons_of_next (i : Instr) (is : List Instr) (s t : State) (h : exec i s = .next t) :
    execAll (i :: is) s = execAll is t := by
  simp only [execAll, h]

theorem assembleWords_cons (i : Instr) (is : List Instr) :
    assembleWords (i :: is) = encode i ++ assembleWords is := by
  simp [assembleWords]

/-- Settles O8, by induction on the list of commands: the first step is the first command's `exec`, which leaves the
later commands' words on the port and does not depend on them. -/
theorem runExecutesCommandsInOrder : Obligations.RunExecutesCommandsInOrder := by
  intro is
  induction is with
  | nil =>
    intro s rest _ _ hport
    obtain rfl : s.port = rest := hport
    rfl
  | cons i is ih =>
    intro s rest hreset hwf hport
    obtain ⟨hwfi, hwfis⟩ := List.forall_mem_cons.mp hwf
    rw [assembleWords_cons, List.append_assoc] at hport
    obtain ⟨t, hexec, htport, htreset, hwords⟩ := exec_next i (setPort (assembleWords is ++ rest) s)
    have hstep : step s = .next t := (stepRunsDecodedCommand s i _ hreset hwfi hport).trans hexec
    have hrun : Sys2Proof.core.run (is.length + 1) s = execAll is (setPort rest t) :=
      (run_succ_of_next _ s t hstep).trans (ih t rest (htreset.trans hreset) hwfis htport)
    exact hrun.trans (execAll_cons_of_next i is _ _ (hwords rest)).symm

/-! ## The output streams -/

/-- Each output stream of `t` is that of `s` with entries appended (R14). -/
structure StreamsGrow (s t : State) : Prop where
  txs_prefix : s.txs <+: t.txs
  rxm_prefix : s.rxm <+: t.rxm
  out_prefix : s.out <+: t.out

/-- A step that changes no stream. -/
theorem StreamsGrow.of_eq {s t : State} (htxs : t.txs = s.txs := by rfl) (hrxm : t.rxm = s.rxm := by rfl)
    (hout : t.out = s.out := by rfl) : StreamsGrow s t :=
  ⟨htxs ▸ List.prefix_rfl, hrxm ▸ List.prefix_rfl, hout ▸ List.prefix_rfl⟩

theorem streamsGrow_raised (e : ErrCode) (s : State) : StreamsGrow s (raised e s) :=
  ⟨List.prefix_rfl, List.prefix_rfl, List.prefix_append _ _⟩

theorem CommandEffect.streamsGrow_appendOutcome {s u : State} (h : CommandEffect s u) (o : CmdOutcome) :
    StreamsGrow s (appendOutcome o u) :=
  ⟨h.txs_prefix, h.rxm_prefix, h.out_eq ▸ List.prefix_append _ _⟩

theorem streamsGrow_of_exec (i : Instr) (s t : State) (h : exec i s = .next t) : StreamsGrow s t := by
  obtain ⟨e, heq⟩ | ⟨u, heff, heq⟩ := exec_cases i s <;> rw [heq] at h
  · rw [(raise_eq_next e s t).mp h]
    exact streamsGrow_raised e s
  · rw [(complete_eq_next u t).mp h]
    exact heff.streamsGrow_appendOutcome .ok

/-- A step is a reset, a wait, a command or an illegal command, and each keeps the entries of the streams. -/
theorem streamsGrow_of_step (s t : State) (h : step s = .next t) : StreamsGrow s t := by
  cases hreset : s.resetIn with
  | true =>
    rw [step_of_reset s hreset] at h
    cases h
    exact .of_eq
  | false =>
    match hport : decodePort s.port with
    | none =>
      rw [step_of_waiting s hreset hport] at h
      cases h
      exact .of_eq
    | some (.cmd i, rest) =>
      rw [step_of_command s i rest hreset hport] at h
      -- the streams do not look at the port, so growth from `setPort rest s` is growth from `s`
      obtain ⟨htxs, hrxm, hout⟩ := streamsGrow_of_exec i (setPort rest s) t h
      exact ⟨htxs, hrxm, hout⟩
    | some (.illegal why, rest) =>
      rw [step_of_illegal s why rest hreset hport] at h
      cases h
      obtain ⟨htxs, hrxm, hout⟩ := streamsGrow_raised .illegal (setPort rest s)
      exact ⟨htxs, hrxm, hout⟩

/-- Settles O13, by the cases of a step. -/
theorem outputStreamsOnlyGrow : Obligations.OutputStreamsOnlyGrow := by
  intro s t h
  obtain ⟨⟨xs, htxs⟩, ⟨ms, hrxm⟩, ⟨os, hout⟩⟩ := streamsGrow_of_step s t h
  exact ⟨⟨xs, htxs.symm⟩, ⟨ms, hrxm.symm⟩, ⟨os, hout.symm⟩⟩

end Sys2Proof.Machine

/-! # Proofs of the state statements (10_state): the invariant of R43 over one step, the reset values, the CRC unit's
independence and the fields of STATUS. -/

namespace Sys2Proof.Machine

/-! ## What a step and a completing command can do -/

/-- All that a step can do (R12, R86, R250). -/
theorem step_cases {s t : State} (h : step s = .next t) :
    (s.resetIn = true ∧ t = hardwareReset s)
    ∨ (s.resetIn = false ∧ decodePort s.port = none ∧ t = s)
    ∨ (∃ i rest, s.resetIn = false ∧ decodePort s.port = some (.cmd i, rest) ∧ exec i (setPort rest s) = .next t)
    ∨ ∃ why rest, s.resetIn = false ∧ decodePort s.port = some (.illegal why, rest)
        ∧ t = raised .illegal (setPort rest s) := by
  cases hreset : s.resetIn with
  | true => exact .inl ⟨rfl, Host.Outcome.next.inj (h.symm.trans (step_of_reset s hreset))⟩
  | false =>
    match hport : decodePort s.port with
    | none =>
      exact .inr (.inl ⟨rfl, rfl, Host.Outcome.next.inj (h.symm.trans (step_of_waiting s hreset hport))⟩)
    | some (.cmd i, rest) =>
      exact .inr (.inr (.inl ⟨i, rest, rfl, rfl, (step_of_command s i rest hreset hport).symm.trans h⟩))
    | some (.illegal why, rest) =>
      exact .inr (.inr (.inr ⟨why, rest, rfl, rfl,
        Host.Outcome.next.inj (h.symm.trans (step_of_illegal s why rest hreset hport))⟩))

/-- `Completes i s u`: command `i` passes its checks in `s` and leaves `u`, the outcome not yet appended. One
constructor for each way a command completes, with the checks it has passed. -/
inductive Completes : Instr → State → State → Prop where
  | nop (s : State) : Completes .nop s s
  | crcInit (s : State) : Completes .crcInit s { s with crc := 0xFFFF#16 }
  | crcByte (b : Byte) (s : State) : Completes (.crcByte b) s { s with crc := crcStep s.crc b }
  | crcCheck (v : Half) (s : State) : Completes (.crcCheck v) s { s with crcOk := crcMatches s.crc v }
  | statClr (s : State) : Completes .statClr s (acknowledge s)
  | txpClear (s : State) : Completes .txpClear s { s with txp := [], txpOvf := false }
  | txpPushFull (b : Byte) {s : State} (hfull : s.txp.length = Config.txpCap) :
      Completes (.txpPush b) s { s with txpOvf := true }
  | txpPush (b : Byte) {s : State} (hroom : s.txp.length ≠ Config.txpCap) :
      Completes (.txpPush b) s { s with txp := s.txp ++ [b] }
  | txfClear {s : State} (hidle : s.modActive = false) : Completes .txfClear s { s with txf := [] }
  | txfPush (b : Byte) {s : State} (hidle : s.modActive = false) (hroom : s.txf.length ≠ Config.txfCap) :
      Completes (.txfPush b) s { s with txf := s.txf ++ [b] }
  | txFrame {s : State} (hidle : s.modActive = false) (hpayload : s.txpOvf = false)
      (hroom : s.txf.length + (frame s.txp).length ≤ Config.txfCap) :
      Completes .txFrame s { s with txf := s.txf ++ frame s.txp }
  | modStart {s : State} (hvalid : s.cfgValid = true) :
      Completes .modStart s { s with
        modBit := 0#32, modN := 0#32, modTotal := BitVec.ofNat 32 (txBitCount s.txf), modActive := true
        modDone := false }
  | modSample {s : State} (hactive : s.modActive = true) :
      Completes .modSample s (advanceModulator (emitSample Config.num (dueSample Config.num s) s))
  | modStop (s : State) : Completes .modStop s { s with modActive := false }
  | dmReset (s : State) : Completes .dmReset s (clearReceiver Config.num s)
  | rxByte (b : Byte) (s : State) : Completes (.rxByte b) s (rxAppend b s)
  | cfgCommit {s : State} (hlegal : cfgLegal s.cfgs = true) :
      Completes .cfgCommit s (activate Config.num s.cfgs s)
  | cfgWr (sel : Byte) (value : Word) {s : State} {c : Cfg} (hwrite : cfgsWrite sel.toNat value s.cfgs = some c) :
      Completes (.cfgWr sel value) s { s with cfgs := c }
  | dmSample (d : DWord) {s : State} (hvalid : s.cfgValid = true) :
      Completes (.dmSample d) s (takeSample Config.num (sampleOperand Config.num d) s)

/-- Ties `Completes` to the model: a command raises an error, or it completes as `Completes` says (R220). -/
theorem exec_raises_or_completes (i : Instr) (s : State) :
    (∃ e, exec i s = raise e s) ∨ ∃ u, Completes i s u ∧ exec i s = complete u := by
  cases i with
  | nop => exact .inr ⟨_, .nop s, rfl⟩
  | crcInit => exact .inr ⟨_, .crcInit s, rfl⟩
  | crcByte b => exact .inr ⟨_, .crcByte b s, rfl⟩
  | crcCheck v => exact .inr ⟨_, .crcCheck v s, rfl⟩
  | statClr => exact .inr ⟨_, .statClr s, rfl⟩
  | txpClear => exact .inr ⟨_, .txpClear s, rfl⟩
  | txpPush b =>
    by_cases hfull : s.txp.length = Config.txpCap
    · exact .inr ⟨_, .txpPushFull b hfull, if_pos hfull⟩
    · exact .inr ⟨_, .txpPush b hfull, if_neg hfull⟩
  | txfClear =>
    by_cases hbusy : s.modActive = true
    · exact .inl ⟨.busy, if_pos hbusy⟩
    · exact .inr ⟨_, .txfClear (by simpa using hbusy), if_neg hbusy⟩
  | txfPush b =>
    by_cases hbusy : s.modActive = true
    · exact .inl ⟨.busy, if_pos hbusy⟩
    by_cases hfull : txfFull s.txf.length = true
    · exact .inl ⟨.txOverflow, (if_neg hbusy).trans (if_pos hfull)⟩
    · exact .inr ⟨_, .txfPush b (by simpa using hbusy) (by simpa using hfull), (if_neg hbusy).trans (if_neg hfull)⟩
  | txFrame =>
    by_cases hbusy : s.modActive = true
    · exact .inl ⟨.busy, if_pos hbusy⟩
    by_cases hlarge : s.txpOvf = true
    · exact .inl ⟨.payloadTooLarge, (if_neg hbusy).trans (if_pos hlarge)⟩
    by_cases hover : txfOverflows (s.txf.length + (frame s.txp).length) = true
    · exact .inl ⟨.txOverflow, (if_neg hbusy).trans ((if_neg hlarge).trans (if_pos hover))⟩
    · exact .inr ⟨_, .txFrame (by simpa using hbusy) (by simpa using hlarge) (by simpa using hover),
        (if_neg hbusy).trans ((if_neg hlarge).trans (if_neg hover))⟩
  | modStart =>
    by_cases hvalid : s.cfgValid = true
    · exact .inr ⟨_, .modStart hvalid, if_pos hvalid⟩
    · exact .inl ⟨.invalidConfig, if_neg hvalid⟩
  | modSample =>
    by_cases hactive : s.modActive = true
    · exact .inr ⟨_, .modSample hactive, if_pos hactive⟩
    · exact .inl ⟨.modIdle, if_neg hactive⟩
  | modStop => exact .inr ⟨_, .modStop s, rfl⟩
  | dmReset => exact .inr ⟨_, .dmReset s, rfl⟩
  | rxByte b => exact .inr ⟨_, .rxByte b s, rfl⟩
  | cfgCommit =>
    by_cases hlegal : cfgLegal s.cfgs = true
    · exact .inr ⟨_, .cfgCommit hlegal, if_pos hlegal⟩
    · exact .inl ⟨.invalidConfig, if_neg hlegal⟩
  | cfgWr sel value =>
    cases hwrite : cfgsWrite sel.toNat value s.cfgs with
    | none => exact .inl ⟨.illegal, by simp [exec, execCfgWr, hwrite]⟩
    | some c => exact .inr ⟨_, .cfgWr sel value hwrite, by simp [exec, execCfgWr, hwrite]⟩
  | dmSample d =>
    by_cases hvalid : s.cfgValid = true
    · exact .inr ⟨_, .dmSample d hvalid, if_pos hvalid⟩
    · exact .inl ⟨.invalidConfig, if_neg hvalid⟩

/-- A command's next state is that of an error, or a completed one with the outcome `ok` (R220). -/
theorem exec_next_cases {i : Instr} {s t : State} (h : exec i s = .next t) :
    (∃ e, t = raised e s) ∨ ∃ u, Completes i s u ∧ t = appendOutcome .ok u := by
  obtain ⟨e, hexec⟩ | ⟨u, hu, hexec⟩ := exec_raises_or_completes i s <;> rw [hexec] at h
  · exact .inl ⟨e, (raise_eq_next e s t).mp h⟩
  · exact .inr ⟨u, hu, (complete_eq_next u t).mp h⟩

/-! ## The remainder of SCAN (41_framing R137, R140) -/

/-- A valid frame takes at least its length field from the buffer (R136 step 4). -/
theorem candidate_valid_length {tail payload rest : Bytes} (h : candidate tail = .valid payload rest) :
    rest.length < tail.length := by
  match tail with
  | [] | [_] => contradiction
  | hi :: lo :: body =>
    rw [candidate_cons] at h
    split at h
    · contradiction
    split at h
    · cases h
      simp only [List.length_drop, List.length_cons]
      omega
    · contradiction

/-- A marker at which SCAN stops begins a remainder of the form of R140 (R136 steps 2 and 3). -/
theorem remainderForm_of_incomplete {tail : Bytes} (h : candidate tail = .incomplete) :
    remainderForm (Config.marker :: tail) = true := by
  match tail with
  | [] | [_] => simp [remainderForm]
  | hi :: lo :: body =>
    rw [candidate_cons] at h
    split at h
    next hshort => simpa [remainderForm, append_toNat] using hshort
    · split at h <;> contradiction

/-- The loop of SCAN leaves a remainder of the form of R140 when it has a pass for every byte and one more (R138):
each pass that goes on takes at least the marker off. -/
theorem remainderForm_scanLoop (passes : Nat) (buf : Bytes) (h : buf.length < passes) :
    remainderForm (scanLoop passes buf).2 = true := by
  induction passes generalizing buf with
  | zero => contradiction
  | succ passes ih =>
    have hle := fromMarker_length_le buf
    obtain hnone | ⟨tail, hmarker⟩ := fromMarker_cases buf
    · simp only [scanLoop, hnone, remainderForm]
    rw [hmarker, List.length_cons] at hle
    cases hdec : candidate tail with
    | incomplete => simpa only [scanLoop, hmarker, hdec] using remainderForm_of_incomplete hdec
    | valid payload rest =>
      have hrest := candidate_valid_length hdec
      simpa only [scanLoop, hmarker, hdec] using ih rest (by omega)
    | falseMarker => simpa only [scanLoop, hmarker, hdec] using ih tail (by omega)

theorem remainderForm_scan (buf : Bytes) : remainderForm (scan buf).2 = true :=
  remainderForm_scanLoop _ buf (Nat.lt_succ_self _)

/-- A remainder is empty or begins with the marker. -/
theorem remainderForm_head {r : Bytes} (h : remainderForm r = true) : r = [] ∨ r.head? = some Config.marker := by
  match r with
  | [] => exact .inl rfl
  | [m] | [m, _] | m :: hi :: lo :: body =>
    right
    simp_all [remainderForm]

/-- A remainder is shorter than the longest frame, of 5 + 65535 bytes. -/
theorem remainderForm_length {r : Bytes} (h : remainderForm r = true) : r.length ≤ 65539 := by
  match r with
  | [] | [_] | [_, _] => simp
  | m :: hi :: lo :: body =>
    simp only [remainderForm, append_toNat, Bool.and_eq_true, decide_eq_true_eq] at h
    obtain ⟨-, hshort⟩ := h
    simp only [List.length_cons]
    omega

/-! ## Bits shifted in, and the samples per symbol -/

/-- A register shifted left with a bit put in at bit 0 (R176, R177), in the library's words. -/
theorem shiftLeft_or_bit {w : Nat} (v : BitVec w) (bit : Bool) :
    (v <<< 1) ||| (BitVec.ofBool bit).setWidth w = v.shiftConcat bit := by
  ext k hk
  cases k <;> simp [BitVec.getElem_shiftConcat, BitVec.getLsbD_eq_getElem]

/-- With a symbol rate of at least 1 there are at most SR samples to a symbol (R205). -/
theorem spsOf_le (sr sym : Word) (h : 1 ≤ sym.toNat) : spsOf sr sym ≤ sr.toNat := by
  have hmul : sr.toNat ≤ sr.toNat * sym.toNat := Nat.le_mul_of_pos_right _ h
  have hlt : 2 * sr.toNat + sym.toNat < 2 * sym.toNat * (sr.toNat + 1) := by linarith
  exact Nat.le_of_lt_succ (Nat.div_lt_of_lt_mul hlt)

/-- A legal tuple's samples per symbol are at least 1 and fit the register SPS (R24, R204). -/
theorem sps_of_cfgLegal {c : Cfg} (h : cfgLegal c = true) : 1 ≤ spsOf c.sr c.sym ∧ spsOf c.sr c.sym < 2 ^ 32 := by
  simp only [cfgLegal, Bool.and_eq_true, decide_eq_true_eq] at h
  obtain ⟨⟨⟨⟨-, hsym⟩, -⟩, hsps⟩, -⟩ := h
  exact ⟨hsps, Nat.lt_of_le_of_lt (spsOf_le c.sr c.sym hsym) c.sr.isLt⟩

/-! ## The invariant of R43, operation by operation

Each lemma proves again only the clauses that speak of a field the operation writes; `h with` keeps the rest. -/

theorem ErrCode.code_le (e : ErrCode) : e.code.toNat ≤ 6 := by
  cases e <;> decide

namespace State.Inv

variable {s : State}

theorem reset : State.reset.Inv where
  active_configured := nofun
  active_bit := nofun
  active_sample := nofun
  active_total := nofun
  window_open := nofun
  unconfigured_idle _ := ⟨rfl, rfl, rfl, rfl, rfl, rfl, rfl, rfl, rfl⟩
  packer_bound := by decide
  seeking_packs_nothing _ := ⟨rfl, rfl⟩
  rxbuf_marker := .inl rfl
  rxbuf_length := Nat.zero_le _
  done_inactive _ := rfl
  rxbuf_remainder := rfl
  txp_capacity := Nat.zero_le _
  txf_capacity := Nat.zero_le _
  configured_legal := nofun
  configured_sps := nofun
  configured_coeffs := nofun
  err_code := by decide

/-- No clause speaks of the port or of the output streams. -/
theorem hardwareReset (s : State) : (hardwareReset s).Inv := { reset with }

theorem setPort (h : s.Inv) (ws : List Word) : (setPort ws s).Inv := { h with }

theorem appendOutcome (h : s.Inv) (o : CmdOutcome) : (appendOutcome o s).Inv := { h with }

theorem raised (h : s.Inv) (e : ErrCode) : (raised e s).Inv :=
  { h with
    err_code := by
      rw [raised_err]
      split
      · exact e.code_le
      · exact h.err_code }

theorem acknowledge (h : s.Inv) : (acknowledge s).Inv :=
  { h with
    done_inactive := nofun
    err_code := Nat.zero_le _ }

/-- TXP takes any contents within its capacity (R29). -/
theorem set_txp (h : s.Inv) {bs : Bytes} (hcap : bs.length ≤ Config.txpCap) (ovf : Bool) :
    ({ s with txp := bs, txpOvf := ovf } : State).Inv :=
  { h with txp_capacity := hcap }

/-- While the modulator is idle TXF takes any contents within its capacity (R31). -/
theorem set_txf (h : s.Inv) (hidle : s.modActive = false) {bs : Bytes} (hcap : bs.length ≤ Config.txfCap) :
    ({ s with txf := bs } : State).Inv :=
  { h with
    active_total := fun hactive => absurd (hidle.symm.trans hactive) Bool.false_ne_true
    txf_capacity := hcap }

/-! ### The modulator -/

/-- MOD_TOTAL holds the bit count of any TXF within its capacity (R33). -/
theorem modTotal_toNat (h : s.Inv) : (BitVec.ofNat 32 (txBitCount s.txf)).toNat = 64 + 8 * s.txf.length := by
  have hcap := h.txf_capacity
  obtain ⟨-, hmax⟩ := txfCap_bounds
  simp only [txBitCount, Config.preambleLen, BitVec.toNat_ofNat]
  omega

theorem start_modulator (h : s.Inv) (hvalid : s.cfgValid = true) :
    ({ s with
        modBit := 0#32, modN := 0#32, modTotal := BitVec.ofNat 32 (txBitCount s.txf), modActive := true
        modDone := false } : State).Inv :=
  { h with
    active_configured := fun _ => hvalid
    active_bit := fun _ => by rw [h.modTotal_toNat]; exact Nat.add_pos_left (by decide) _
    active_sample := fun _ => Nat.zero_lt_of_lt (h.window_open hvalid)
    active_total := fun _ => h.modTotal_toNat
    done_inactive := nofun }

/-- With the modulator idle R43 (a) and (g) ask nothing of its counters and of MOD_DONE. -/
theorem idle_modulator (h : s.Inv) (n b : Word) (done : Bool) :
    ({ s with modN := n, modBit := b, modActive := false, modDone := done } : State).Inv :=
  { h with
    active_configured := nofun
    active_bit := nofun
    active_sample := nofun
    active_total := nofun
    done_inactive := fun _ => rfl }

theorem emitSample (h : s.Inv) (num : NumOps NumVal) (x : NumVal) : (emitSample num x s).Inv := { h with }

/-- The next bit index is short of MOD_TOTAL or is MOD_TOTAL, and at MOD_TOTAL the modulator stops (R156). -/
theorem advanceModulator (h : s.Inv) (hactive : s.modActive = true) : (advanceModulator s).Inv := by
  obtain ⟨n, b, heq, hnext⟩ := advanceModulator_cases s
  have hbit := h.active_bit hactive
  have hmax := s.modTotal.isLt
  have hn : n.toNat < s.sps.toNat := by
    obtain ⟨hlt, rfl, -⟩ | ⟨-, rfl, -⟩ := hnext
    · rwa [BitVec.toNat_add_of_lt (Nat.lt_trans hlt s.sps.isLt)]
    · exact Nat.zero_lt_of_lt (h.active_sample hactive)
  have hb : b.toNat ≤ s.modTotal.toNat := by
    obtain ⟨-, -, rfl⟩ | ⟨-, -, rfl⟩ := hnext
    · exact Nat.le_of_lt hbit
    · rwa [BitVec.toNat_add_of_lt (Nat.lt_of_le_of_lt hbit hmax)]
  by_cases hlast : b = s.modTotal
  · rw [heq, if_pos hlast, if_pos hlast]
    exact h.idle_modulator n b true
  · rw [heq, if_neg hlast, if_neg hlast]
    exact
      { h with
        active_bit := fun _ => Nat.lt_of_le_of_ne hb fun he => hlast (BitVec.eq_of_toNat_eq he)
        active_sample := fun _ => hn }

/-! ### The receiver -/

/-- RXBUF takes any remainder of SCAN: R43 (f) follows from the form of R140. -/
theorem set_rxbuf (h : s.Inv) {r : Bytes} (hr : remainderForm r = true) : ({ s with rxbuf := r } : State).Inv :=
  { h with
    rxbuf_marker := remainderForm_head hr
    rxbuf_length := remainderForm_length hr
    rxbuf_remainder := hr }

theorem rxAppend (h : s.Inv) (b : Byte) : (rxAppend b s).Inv :=
  { h.set_rxbuf (remainderForm_scan (s.rxbuf ++ [b])) with }

theorem clearReceiver (h : s.Inv) : (clearReceiver Config.num s).Inv :=
  { h.set_rxbuf (r := []) rfl with
    window_open := fun hvalid => Nat.zero_lt_of_lt (h.window_open hvalid)
    unconfigured_idle := fun _ => ⟨rfl, rfl, rfl, rfl, rfl, rfl, rfl, rfl, rfl⟩
    packer_bound := Nat.two_pow_pos _
    seeking_packs_nothing := fun _ => ⟨rfl, rfl⟩ }

/-- Under a configuration the detectors may hold anything, and the window counter anything short of SPS. -/
theorem set_detectors (h : s.Inv) (hvalid : s.cfgValid = true) (q10 q20 q11 q21 : NumVal) {n : Word}
    (hn : n.toNat < s.sps.toNat) :
    ({ s with q10 := q10, q20 := q20, q11 := q11, q21 := q21, dmN := n } : State).Inv :=
  { h with
    window_open := fun _ => hn
    unconfigured_idle := fun hinvalid => absurd (hinvalid.symm.trans hvalid) Bool.false_ne_true }

/-- Under a configuration the synchronizer and the packer may hold anything that R43 (d) and (e) allow. -/
theorem set_synchronizer (h : s.Inv) (hvalid : s.cfgValid = true) (locked : Bool) (sr : DWord) {acc : Byte}
    {cnt : BitVec 3} (hbound : acc.toNat < 2 ^ cnt.toNat) (hseeking : locked = false → cnt = 0 ∧ acc = 0) :
    ({ s with syncLocked := locked, syncSr := sr, bpAcc := acc, bpCnt := cnt } : State).Inv :=
  { h with
    unconfigured_idle := fun hinvalid => absurd (hinvalid.symm.trans hvalid) Bool.false_ne_true
    packer_bound := hbound
    seeking_packs_nothing := hseeking }

/-- A collected bit doubles the bound of R43 (d); the eighth one empties the packer (R177). -/
theorem packBit (h : s.Inv) (hvalid : s.cfgValid = true) (hlocked : s.syncLocked = true) (bit : Bool) :
    (packBit bit s).Inv := by
  have hseeking {p : Prop} (hs : s.syncLocked = false) : p := absurd (hs.symm.trans hlocked) Bool.false_ne_true
  obtain ⟨-, heq⟩ | ⟨hcnt, heq⟩ := packBit_cases bit s <;> rw [heq]
  · exact (h.set_synchronizer hvalid _ _ (by decide) fun _ => ⟨rfl, rfl⟩).rxAppend _
  · refine h.set_synchronizer hvalid _ _ ?_ hseeking
    have hlt : s.bpCnt.toNat < 7 := by
      have hne : s.bpCnt.toNat ≠ 7 := fun he => hcnt (BitVec.eq_of_toNat_eq he)
      have hmax := s.bpCnt.isLt
      omega
    rw [shiftLeft_or_bit, BitVec.toNat_add_of_lt (by rw [BitVec.toNat_ofNat]; omega)]
    exact BitVec.toNat_shiftConcat_lt_of_lt (by omega) h.packer_bound

theorem syncBit (h : s.Inv) (hvalid : s.cfgValid = true) (bit : Bool) : (syncBit bit s).Inv := by
  obtain ⟨hlocked, heq⟩ | ⟨-, -, heq⟩ | ⟨-, -, heq⟩ := syncBit_cases bit s <;> rw [heq]
  · exact h.packBit hvalid hlocked bit
  · exact h.set_synchronizer hvalid _ _ (by decide) fun _ => ⟨rfl, rfl⟩
  · exact h.set_synchronizer hvalid _ _ h.packer_bound h.seeking_packs_nothing

theorem takeSample (h : s.Inv) (hvalid : s.cfgValid = true) (num : NumOps NumVal) (x : NumVal) :
    (takeSample num x s).Inv := by
  obtain ⟨hlt, heq⟩ | ⟨-, heq⟩ := takeSample_cases num x s <;> rw [heq]
  · refine h.set_detectors hvalid _ _ _ _ ?_
    rwa [BitVec.toNat_add_of_lt (Nat.lt_trans hlt s.sps.isLt)]
  · exact (h.set_detectors hvalid _ _ _ _ (n := 0#32) (Nat.zero_lt_of_lt (h.window_open hvalid))).syncBit hvalid _

/-! ### The configuration -/

/-- A legal tuple replaces the active configuration whole, and with it SPS and the coefficients (R23 to R26). -/
theorem activate (h : s.Inv) {c : Cfg} (hlegal : cfgLegal c = true) : (activate Config.num c s).Inv := by
  obtain ⟨hpos, hlt⟩ := sps_of_cfgLegal hlegal
  have hsps : (BitVec.ofNat 32 (spsOf c.sr c.sym)).toNat = spsOf c.sr c.sym := Nat.mod_eq_of_lt hlt
  exact
    { (h.idle_modulator s.modN s.modBit s.modDone).clearReceiver with
      active_configured := nofun
      active_sample := nofun
      unconfigured_idle := nofun
      window_open := fun _ => hsps.symm ▸ hpos
      configured_legal := fun _ => hlegal
      configured_sps := fun _ => hsps
      configured_coeffs := fun _ => ⟨rfl, rfl⟩ }

end State.Inv

/-! ## The invariant over a command and over a step -/

theorem Completes.inv {i : Instr} {s u : State} (hu : Completes i s u) (h : s.Inv) : u.Inv := by
  cases hu with
  | nop => exact h
  | crcInit | crcByte | crcCheck | cfgWr => exact { h with }
  | statClr => exact h.acknowledge
  | txpClear => exact h.set_txp (Nat.zero_le _) _
  | txpPushFull => exact h.set_txp h.txp_capacity _
  | txpPush b hroom =>
    refine h.set_txp ?_ _
    rw [List.length_append]
    exact Nat.lt_of_le_of_ne h.txp_capacity hroom
  | txfClear hidle => exact h.set_txf hidle (Nat.zero_le _)
  | txfPush b hidle hroom =>
    refine h.set_txf hidle ?_
    rw [List.length_append]
    exact Nat.lt_of_le_of_ne h.txf_capacity hroom
  | txFrame hidle _ hroom => exact h.set_txf hidle (by rwa [List.length_append])
  | modStart hvalid => exact h.start_modulator hvalid
  | modSample hactive => exact (h.emitSample _ _).advanceModulator hactive
  | modStop => exact h.idle_modulator _ _ _
  | dmReset => exact h.clearReceiver
  | rxByte b => exact h.rxAppend b
  | cfgCommit hlegal => exact h.activate hlegal
  | dmSample d hvalid => exact h.takeSample hvalid _ _

theorem State.Inv.exec {i : Instr} {s t : State} (h : s.Inv) (hexec : exec i s = .next t) : t.Inv := by
  obtain ⟨e, rfl⟩ | ⟨u, hu, rfl⟩ := exec_next_cases hexec
  · exact h.raised e
  · exact (hu.inv h).appendOutcome .ok

/-- Settles O14, by the cases of a step and, for a command, the ways it completes. -/
theorem stepKeepsInvariant : Obligations.StepKeepsInvariant := by
  intro s t h hstep
  obtain ⟨-, rfl⟩ | ⟨-, -, rfl⟩ | ⟨i, rest, -, -, hexec⟩ | ⟨why, rest, -, -, rfl⟩ := step_cases hstep
  · exact .hardwareReset s
  · exact h
  · exact (h.setPort rest).exec hexec
  · exact (h.setPort rest).raised .illegal

/-- Settles O15. -/
theorem resetSatisfiesInvariant : Obligations.ResetSatisfiesInvariant := .reset

/-- ID reads the same in every state (R21). -/
theorem readPort_ident (s : State) : readPort 0x00 s = Config.ident := rfl

/-- Settles O16: ID is a constant, and every other value stands as a field of the reset state. -/
theorem resetValues : Obligations.ResetValues := by
  refine ⟨readPort_ident _, ?_⟩
  and_intros <;> rfl

/-! ## The CRC unit (R27, R28) -/

/-- `u` has the CRC unit of `s`. -/
structure SameCrcUnit (s u : State) : Prop where
  crc_eq : u.crc = s.crc
  crcOk_eq : u.crcOk = s.crcOk

theorem sameCrcUnit_advanceModulator (s : State) : SameCrcUnit s (advanceModulator s) := by
  obtain ⟨n, b, heq, -⟩ := advanceModulator_cases s
  rw [heq]
  exact ⟨rfl, rfl⟩

theorem sameCrcUnit_packBit (bit : Bool) (s : State) : SameCrcUnit s (packBit bit s) := by
  obtain ⟨-, heq⟩ | ⟨-, heq⟩ := packBit_cases bit s <;> rw [heq] <;> exact ⟨rfl, rfl⟩

theorem sameCrcUnit_syncBit (bit : Bool) (s : State) : SameCrcUnit s (syncBit bit s) := by
  obtain ⟨-, heq⟩ | ⟨-, -, heq⟩ | ⟨-, -, heq⟩ := syncBit_cases bit s <;> rw [heq]
  · exact sameCrcUnit_packBit bit s
  · exact ⟨rfl, rfl⟩
  · exact ⟨rfl, rfl⟩

theorem sameCrcUnit_takeSample (num : NumOps NumVal) (x : NumVal) (s : State) :
    SameCrcUnit s (takeSample num x s) := by
  obtain ⟨-, heq⟩ | ⟨-, heq⟩ := takeSample_cases num x s <;> rw [heq]
  · exact ⟨rfl, rfl⟩
  · exact { sameCrcUnit_syncBit _ _ with }

/-- A completing command that is none of the CRC unit's keeps the whole unit; the unit's own write one half each. -/
theorem Completes.crcUnit {i : Instr} {s u : State} (hu : Completes i s u) :
    SameCrcUnit s u
    ∨ ((i = .crcInit ∨ ∃ b, i = .crcByte b) ∧ u.crcOk = s.crcOk)
    ∨ ((∃ v, i = .crcCheck v) ∧ u.crc = s.crc) := by
  cases hu with
  | crcInit => exact .inr (.inl ⟨.inl rfl, rfl⟩)
  | crcByte b => exact .inr (.inl ⟨.inr ⟨b, rfl⟩, rfl⟩)
  | crcCheck v => exact .inr (.inr ⟨⟨v, rfl⟩, rfl⟩)
  | modSample => exact .inl { sameCrcUnit_advanceModulator _ with }
  | dmSample => exact .inl (sameCrcUnit_takeSample _ _ _)
  | _ => exact .inl ⟨rfl, rfl⟩

/-- Settles O27: an error keeps the CRC unit, and so does completing, but for the unit's own commands. -/
theorem crcUnitIsIndependent : Obligations.CrcUnitIsIndependent := by
  intro i s t hexec
  obtain ⟨e, rfl⟩ | ⟨u, hu, rfl⟩ := exec_next_cases hexec
  · exact ⟨fun _ => rfl, fun _ => rfl⟩
  obtain ⟨hcrc, hok⟩ | ⟨hi, hok⟩ | ⟨⟨v, hi⟩, hcrc⟩ := hu.crcUnit
  · exact ⟨fun _ => hcrc, fun _ => hok⟩
  · refine ⟨fun ⟨hinit, hbyte⟩ => ?_, fun _ => hok⟩
    obtain hi | ⟨b, hi⟩ := hi
    · exact absurd hi hinit
    · exact absurd hi (hbyte b)
  · exact ⟨fun _ => hcrc, fun hcheck => absurd hi (hcheck v)⟩

/-! ## STATUS (R41) -/

/-- A one-bit field is its bit at its position and 0 elsewhere. -/
theorem getLsbD_statusBit {position : Nat} (hp : position < 32) (b : Bool) (k : Nat) :
    (statusBit position b).getLsbD k = (decide (k = position) && b) := by
  simp only [statusBit, BitVec.getLsbD_shiftLeft, BitVec.getLsbD_setWidth, BitVec.getLsbD_ofBool]
  grind

/-- A bit of STATUS is the bit of the one field that covers it. -/
theorem getLsbD_statusWord (s : State) (k : Nat) :
    (statusWord s).getLsbD k =
      (decide (k = 0) && s.cfgValid || decide (k = 1) && s.modActive || decide (k = 2) && s.modDone
        || decide (k = 3) && s.syncLocked || decide (k = 4) && s.crcOk || decide (k = 5) && s.txpOvf
        || decide (8 ≤ k) && s.err.getLsbD (k - 8)) := by
  have herr : (s.err.setWidth 32 <<< 8).getLsbD k = (decide (8 ≤ k) && s.err.getLsbD (k - 8)) := by
    simp only [BitVec.getLsbD_shiftLeft, BitVec.getLsbD_setWidth]
    by_cases hk : k < 12
    · grind
    · simp [BitVec.getLsbD_of_ge s.err (k - 8) (by omega)]
  simp [statusWord, herr, getLsbD_statusBit]

/-- Above the flags only ERR stands. -/
theorem getLsbD_statusWord_of_le (s : State) {k : Nat} (hk : 6 ≤ k) :
    (statusWord s).getLsbD k = (decide (8 ≤ k) && s.err.getLsbD (k - 8)) := by
  have hflag {position : Nat} (hp : position < 6) : decide (k = position) = false := decide_eq_false (by omega)
  simp [getLsbD_statusWord, hflag]

theorem extractLsb'_statusWord_err (s : State) : (statusWord s).extractLsb' 8 4 = s.err := by
  ext k hk
  rw [BitVec.getElem_extractLsb', getLsbD_statusWord_of_le s (Nat.le_add_right_of_le (by decide))]
  simp [BitVec.getLsbD_eq_getElem hk]

theorem extractLsb'_statusWord_low_reserved (s : State) : (statusWord s).extractLsb' 6 2 = 0 := by
  ext k hk
  have hbelow : ¬ 8 ≤ 6 + k := by omega
  rw [BitVec.getElem_extractLsb', getLsbD_statusWord_of_le s (Nat.le_add_right _ _)]
  simp [hbelow]

theorem extractLsb'_statusWord_high_reserved (s : State) : (statusWord s).extractLsb' 12 20 = 0 := by
  ext k hk
  have habove : s.err.getLsbD (12 + k - 8) = false := BitVec.getLsbD_of_ge _ _ (by omega)
  rw [BitVec.getElem_extractLsb', getLsbD_statusWord_of_le s (Nat.le_add_right_of_le (by decide)), habove]
  simp

theorem readPort_status (s : State) : readPort 0x04 s = statusWord (settle s) := rfl

/-- Settles O18: a read of STATUS is the STATUS view of the settled state, taken apart field by field. -/
theorem statusFields : Obligations.StatusFields := by
  intro s
  have hread := readPort_status s
  refine ⟨?cfgValid, ?modActive, ?modDone, ?syncLocked, ?crcOk, ?txpOvf, ?low, ?err, ?high⟩ <;> rw [hread]
  case low => exact extractLsb'_statusWord_low_reserved _
  case err => exact extractLsb'_statusWord_err _
  case high => exact extractLsb'_statusWord_high_reserved _
  all_goals
    rw [getLsbD_statusWord]
    simp

end Sys2Proof.Machine

/-! # Proofs of the memory statements (20_memory): the read map, and a read's place behind the command port. -/

namespace Sys2Proof

/-! ## The words a command takes (30_encoding R80) -/

/-- All that taking a command can do: it takes one word, or three where W[31] announces data. -/
theorem takeCommand_cases {port rest : List Word} {w : Word} {d : DWord} (h : takeCommand port = some (w, d, rest)) :
    (carriesData w = false ∧ d = 0#64 ∧ port = w :: rest)
    ∨ ∃ dh dl, carriesData w = true ∧ d = dh ++ dl ∧ port = w :: dh :: dl :: rest := by
  match port with
  | [] => contradiction
  | v :: tail =>
    cases hdata : carriesData v with
    | false =>
      rw [takeCommand_single v tail hdata] at h
      cases h
      exact .inl ⟨hdata, rfl, rfl⟩
    | true =>
      match tail with
      | [] | [_] => simp [takeCommand, hdata] at h
      | dh :: dl :: tail =>
        rw [takeCommand_data v dh dl tail hdata] at h
        cases h
        exact .inr ⟨dh, dl, hdata, rfl, rfl⟩

theorem takeCommand_append {port rest : List Word} {w : Word} {d : DWord} (h : takeCommand port = some (w, d, rest))
    (ws : List Word) : takeCommand (port ++ ws) = some (w, d, rest ++ ws) := by
  obtain ⟨hdata, rfl, rfl⟩ | ⟨dh, dl, hdata, rfl, rfl⟩ := takeCommand_cases h
  · exact takeCommand_single w _ hdata
  · exact takeCommand_data w dh dl _ hdata

theorem takeCommand_length_lt {port rest : List Word} {w : Word} {d : DWord}
    (h : takeCommand port = some (w, d, rest)) : rest.length < port.length := by
  obtain ⟨-, -, rfl⟩ | ⟨dh, dl, -, -, rfl⟩ := takeCommand_cases h <;> simp only [List.length_cons] <;> omega

/-- A decoded command is one that was taken. -/
theorem takeCommand_of_decodePort {port rest : List Word} {r : Decoded} (h : decodePort port = some (r, rest)) :
    ∃ w d, takeCommand port = some (w, d, rest) ∧ decodeWord w d = r := by
  obtain ⟨⟨w, d, ws⟩, htake, heq⟩ := Option.map_eq_some_iff.mp h
  cases heq
  exact ⟨w, d, htake, rfl⟩

/-- Words written behind a whole command do not change how it is read. -/
theorem decodePort_append {port rest : List Word} {r : Decoded} (h : decodePort port = some (r, rest))
    (ws : List Word) : decodePort (port ++ ws) = some (r, rest ++ ws) := by
  obtain ⟨w, d, htake, rfl⟩ := takeCommand_of_decodePort h
  simp [decodePort, takeCommand_append htake ws]

/-- A command takes at least one word. -/
theorem decodePort_length_lt {port rest : List Word} {r : Decoded} (h : decodePort port = some (r, rest)) :
    rest.length < port.length := by
  obtain ⟨w, d, htake, -⟩ := takeCommand_of_decodePort h
  exact takeCommand_length_lt htake

end Sys2Proof

namespace Sys2Proof.Machine

/-! ## The read map (R63 to R65) -/

/-- Bit `k` of BP: BP_ACC stands below bit 8, BP_CNT from bit 8 on (R42). -/
theorem getLsbD_bpWord (s : State) (k : Nat) :
    (bpWord s).getLsbD k = (decide (8 ≤ k) && s.bpCnt.getLsbD (k - 8) || s.bpAcc.getLsbD k) := by
  have hcnt : (s.bpCnt.setWidth 32 <<< 8).getLsbD k = (decide (8 ≤ k) && s.bpCnt.getLsbD (k - 8)) := by
    simp only [BitVec.getLsbD_shiftLeft, BitVec.getLsbD_setWidth]
    by_cases hk : k < 11
    · grind
    · simp [BitVec.getLsbD_of_ge s.bpCnt (k - 8) (by omega)]
  have hacc : (s.bpAcc.setWidth 32).getLsbD k = s.bpAcc.getLsbD k := by
    by_cases hk : k < 32
    · simp [hk]
    · simp [hk, BitVec.getLsbD_of_ge s.bpAcc k (by omega)]
  rw [bpWord, BitVec.getLsbD_or, hcnt, hacc]

theorem extractLsb'_bpWord_acc (s : State) : (bpWord s).extractLsb' 0 8 = s.bpAcc := by
  ext k hk
  have hbelow : ¬ 8 ≤ k := by omega
  rw [BitVec.getElem_extractLsb', getLsbD_bpWord]
  simp [hbelow, BitVec.getLsbD_eq_getElem hk]

theorem extractLsb'_bpWord_cnt (s : State) : (bpWord s).extractLsb' 8 3 = s.bpCnt := by
  ext k hk
  rw [BitVec.getElem_extractLsb', getLsbD_bpWord, BitVec.getLsbD_of_ge s.bpAcc _ (Nat.le_add_right _ _)]
  simp [BitVec.getLsbD_eq_getElem hk]

theorem extractLsb'_bpWord_reserved (s : State) : (bpWord s).extractLsb' 11 21 = 0 := by
  ext k hk
  rw [BitVec.getElem_extractLsb', getLsbD_bpWord, BitVec.getLsbD_of_ge s.bpAcc _ (by omega),
    BitVec.getLsbD_of_ge s.bpCnt _ (by omega)]
  simp

theorem readPort_bp (s : State) : readPort 0x2C s = bpWord (settle s) := rfl

/-- Settles O19: a read is a register of the settled state; the map names a register at each offset, and BP is taken
apart field by field. -/
theorem readMap : Obligations.ReadMap := by
  intro s t
  rw [readPort_bp, extractLsb'_bpWord_acc, extractLsb'_bpWord_cnt, extractLsb'_bpWord_reserved]
  and_intros <;> rfl

/-- The word index of an offset leaves out A[1:0] (R63). -/
theorem wordIndex_and_mask (a : BitVec 7) : (a &&& 0x7C).toNat / 4 = a.toNat / 4 := by
  have hlt : a.toNat / 2 ^ 2 < 2 ^ 5 := by
    have := a.isLt
    omega
  calc (a &&& 0x7C).toNat / 2 ^ 2
      = a.toNat / 2 ^ 2 &&& 0x7C / 2 ^ 2 := by rw [BitVec.toNat_and]; exact Nat.and_div_two_pow ..
    _ = a.toNat / 2 ^ 2 % 2 ^ 5 := Nat.and_two_pow_sub_one_eq_mod _ 5
    _ = a.toNat / 2 ^ 2 := Nat.mod_eq_of_lt hlt

/-- Settles O20: an offset is used only through its word index. -/
theorem readIgnoresLowOffsetBits : Obligations.ReadIgnoresLowOffsetBits := by
  intro a s
  simp only [readPort_eq_registerAt_settle, registerAt, wordIndex_and_mask]

/-! ## Settling (R70)

`settle` takes a bounded number of steps. The bound is enough because each step that does not wait makes `pending`
smaller, and once the block waits, more steps change nothing. -/

@[simp] theorem hostWrite_port (ws : List Word) (s : State) : (hostWrite ws s).port = s.port ++ ws := rfl
@[simp] theorem hostWrite_resetIn (ws : List Word) (s : State) : (hostWrite ws s).resetIn = s.resetIn := rfl

/-- The words waiting on the port and the words behind them, named. -/
theorem hostWrite_of_port {s : State} {rest : List Word} (h : s.port = rest) (ws : List Word) :
    hostWrite ws s = setPort (rest ++ ws) s :=
  h ▸ rfl

@[simp] theorem hardwareReset_port (s : State) : (hardwareReset s).port = s.port := rfl
@[simp] theorem hardwareReset_resetIn (s : State) : (hardwareReset s).resetIn = false := rfl

/-- The block waits: no reset is asserted and no whole command stands on the port. -/
structure Drained (s : State) : Prop where
  resetIn_eq : s.resetIn = false
  decodePort_eq : decodePort s.port = none

theorem Drained.step {s : State} (h : Drained s) : step s = .next s :=
  step_of_waiting s h.resetIn_eq h.decodePort_eq

theorem drained_of_port_nil {s : State} (hreset : s.resetIn = false) (hport : s.port = []) : Drained s :=
  ⟨hreset, hport ▸ rfl⟩

/-- A bound on the steps until the block waits: the words on the port, and one for an asserted reset. -/
def pending (s : State) : Nat := s.port.length + s.resetIn.toNat

theorem pending_le (s : State) : pending s ≤ s.port.length + 1 :=
  Nat.add_le_add_left s.resetIn.toNat_le _

/-- Every step answers a next state (R241). -/
theorem step_advances (s : State) : Advances s := by
  cases hreset : s.resetIn with
  | true => exact ⟨_, step_of_reset s hreset⟩
  | false =>
    match hport : decodePort s.port with
    | none => exact ⟨_, step_of_waiting s hreset hport⟩
    | some (.cmd i, rest) =>
      obtain ⟨t, hexec, -⟩ := exec_next i (setPort rest s)
      exact ⟨t, (step_of_command s i rest hreset hport).trans hexec⟩
    | some (.illegal why, rest) => exact ⟨_, step_of_illegal s why rest hreset hport⟩

/-- What the next state of a command keeps: the inputs, and itself over any other words on the port. -/
theorem exec_next_port {i : Instr} {s t : State} (h : exec i s = .next t) :
    t.port = s.port ∧ t.resetIn = s.resetIn ∧ ∀ ws, exec i (setPort ws s) = .next (setPort ws t) := by
  obtain ⟨u, hu, hframe⟩ := exec_next i s
  cases h.symm.trans hu
  exact hframe

/-- A step waits or brings the block nearer to waiting. -/
theorem drained_or_pending_lt {s t : State} (h : step s = .next t) :
    (Drained s ∧ t = s) ∨ pending t < pending s := by
  obtain ⟨hreset, rfl⟩ | ⟨hreset, hport, rfl⟩ | ⟨i, rest, hreset, hport, hexec⟩ | ⟨why, rest, hreset, hport, rfl⟩ :=
    step_cases h
  · right
    simp [pending, hreset]
  · exact .inl ⟨⟨hreset, hport⟩, rfl⟩
  · right
    obtain ⟨htport, htreset, -⟩ := exec_next_port hexec
    simpa [pending, htport, htreset] using decodePort_length_lt hport
  · right
    simpa [pending] using decodePort_length_lt hport

theorem drained_settleFor (steps : Nat) (s : State) (h : pending s ≤ steps) : Drained (settleFor steps s) := by
  induction steps generalizing s with
  | zero =>
    obtain ⟨t, hstep⟩ := step_advances s
    obtain ⟨hdrained, -⟩ | hlt := drained_or_pending_lt hstep
    · exact hdrained
    · omega
  | succ steps ih =>
    obtain ⟨t, hstep⟩ := step_advances s
    obtain ⟨hdrained, rfl⟩ | hlt := drained_or_pending_lt hstep
    · rwa [settleFor_of_waiting _ _ hstep]
    · rw [settleFor_succ_of_next steps s t hstep]
      exact ih t (by omega)

theorem drained_settle (s : State) : Drained (settle s) := drained_settleFor _ s (pending_le s)

/-- The settled state is reached by steps. -/
theorem run_settleFor (steps : Nat) (s : State) : Sys2Proof.core.run steps s = .next (settleFor steps s) := by
  induction steps generalizing s with
  | zero => rfl
  | succ steps ih =>
    obtain ⟨t, hstep⟩ := step_advances s
    rw [run_succ_of_next steps s t hstep, settleFor_succ_of_next steps s t hstep, ih]

/-- More steps than `settle` takes change nothing. -/
theorem settleFor_add_eq_settle (extra : Nat) (s : State) :
    settleFor (s.port.length + 1 + extra) s = settle s := by
  rw [settleFor_add _ extra s _ (run_settleFor _ s)]
  exact settleFor_of_waiting extra _ (drained_settle s).step

/-- A run keeps the settled state: `s` and what it runs to settle to one state. -/
theorem settle_of_run {steps : Nat} {s t : State} (h : Sys2Proof.core.run steps s = .next t) :
    settle t = settle s :=
  calc settle t
      = settleFor (t.port.length + 1 + (s.port.length + 1)) t := (settleFor_add_eq_settle _ t).symm
    _ = settleFor (steps + (t.port.length + 1 + (s.port.length + 1))) s := (settleFor_add _ _ s t h).symm
    _ = settleFor (s.port.length + 1 + (steps + (t.port.length + 1))) s := by congr 1; omega
    _ = settle s := settleFor_add_eq_settle _ s

theorem settle_of_step {s t : State} (h : step s = .next t) : settle t = settle s :=
  settle_of_run ((run_succ_of_next 0 s t h).trans rfl)

/-! ## Reads between writes (R66, R70, R72) -/

theorem registerAt_syncSr (s : State) : registerAt 0x34 s ++ registerAt 0x30 s = s.syncSr :=
  dataHigh_append_dataLow s.syncSr

/-- Settles O22: a read depends on the state only through the settled state, which a run keeps. -/
theorem readsAreConsistentBetweenWrites : Obligations.ReadsAreConsistentBetweenWrites := by
  intro n s t hrun
  have hread (a : BitVec 7) : readPort a t = readPort a s := by
    rw [readPort_eq_registerAt_settle, settle_of_run hrun, ← readPort_eq_registerAt_settle]
  have hsync : readPort 0x34 s ++ readPort 0x30 s = (settle s).syncSr := registerAt_syncSr (settle s)
  refine ⟨hread, ?_, ?_⟩ <;> rw [hread]
  · exact hsync
  · exact hsync

/-! ## Reads behind written commands (R70, R73, R260) -/

/-- A step that does not wait is the same with more words written to the port. -/
theorem step_hostWrite {s t : State} (ws : List Word) (h : step s = .next t) (hbusy : ¬ Drained s) :
    step (hostWrite ws s) = .next (hostWrite ws t) := by
  obtain ⟨hreset, rfl⟩ | ⟨hreset, hport, -⟩ | ⟨i, rest, hreset, hport, hexec⟩ | ⟨why, rest, hreset, hport, rfl⟩ :=
    step_cases h
  · exact step_of_reset _ hreset
  · exact absurd ⟨hreset, hport⟩ hbusy
  · obtain ⟨htport, -, hwords⟩ := exec_next_port hexec
    rw [hostWrite_of_port htport]
    have hrun := step_of_command (hostWrite ws s) i (rest ++ ws) hreset (decodePort_append hport ws)
    exact hrun.trans (hwords (rest ++ ws))
  · exact step_of_illegal _ why (rest ++ ws) hreset (decodePort_append hport ws)

theorem settle_hostWrite_settleFor (ws : List Word) (steps : Nat) (s : State) :
    settle (hostWrite ws (settleFor steps s)) = settle (hostWrite ws s) := by
  induction steps generalizing s with
  | zero => rfl
  | succ steps ih =>
    by_cases hdrained : Drained s
    · rw [settleFor_of_waiting _ s hdrained.step]
    · obtain ⟨t, hstep⟩ := step_advances s
      rw [settleFor_succ_of_next steps s t hstep, ih t]
      exact settle_of_step (step_hostWrite ws hstep hdrained)

/-- Words written to the port settle as if written once all before them had been taken. -/
theorem settle_hostWrite_settle (ws : List Word) (s : State) :
    settle (hostWrite ws (settle s)) = settle (hostWrite ws s) :=
  settle_hostWrite_settleFor ws _ s

/-- Commands executed in order answer a next state and keep the inputs. -/
theorem execAll_next (is : List Instr) (s : State) :
    ∃ t, execAll is s = .next t ∧ t.port = s.port ∧ t.resetIn = s.resetIn := by
  induction is generalizing s with
  | nil => exact ⟨s, rfl, rfl, rfl⟩
  | cons i is ih =>
    obtain ⟨u, hexec, huport, hureset, -⟩ := exec_next i s
    obtain ⟨t, hall, htport, htreset⟩ := ih u
    exact ⟨t, (execAll_cons_of_next i is s u hexec).trans hall, htport.trans huport, htreset.trans hureset⟩

/-- Commands written to an empty port settle to what executing them in order gives. -/
theorem settle_hostWrite_assembleWords {is : List Instr} {s t : State} (hwf : ∀ i ∈ is, i.wf = true)
    (hreset : s.resetIn = false) (hport : s.port = []) (hall : execAll is s = .next t) :
    settle (hostWrite (assembleWords is) s) = settle t := by
  have hwords : (hostWrite (assembleWords is) s).port = assembleWords is ++ [] := by simp [hport]
  have hempty : setPort [] (hostWrite (assembleWords is) s) = s := hport ▸ rfl
  have hrun : Sys2Proof.core.run is.length (hostWrite (assembleWords is) s) = .next t := by
    have hexec := runExecutesCommandsInOrder is (hostWrite (assembleWords is) s) [] hreset hwf hwords
    exact hexec.trans ((congrArg (execAll is) hempty).trans hall)
  exact (settle_of_run hrun).symm

/-- Settles O21: settling drains the port by steps; commands written to the drained port run as `execAll`, which ends
in a state that waits again. -/
theorem readsSeeWrittenCommands : Obligations.ReadsSeeWrittenCommands := by
  constructor
  · intro s
    obtain ⟨hreset, hport⟩ := drained_settle s
    exact ⟨hreset, hport, ⟨_, run_settleFor _ s⟩, fun a => readPort_eq_registerAt_settle a s⟩
  · intro is s a hwf hempty
    have hreset := (drained_settle s).resetIn_eq
    obtain ⟨t, hall, htport, htreset⟩ := execAll_next is (settle s)
    have hdrained : Drained t := drained_of_port_nil (htreset.trans hreset) (htport.trans hempty)
    have hsettle : settle (hostWrite (assembleWords is) s) = t :=
      calc settle (hostWrite (assembleWords is) s)
          = settle (hostWrite (assembleWords is) (settle s)) := (settle_hostWrite_settle _ s).symm
        _ = settle t := settle_hostWrite_assembleWords hwf hreset hempty hall
        _ = t := settle_of_waiting t hdrained.step
    exact ⟨t, hall, hsettle, by rw [readPort_eq_registerAt_settle, hsettle]⟩

end Sys2Proof.Machine

/-! # Proofs of the encoding statements (30_encoding): the words of a command, the decoder by the layouts of R84, and
what a step does with an illegal or an incomplete command. -/

namespace Sys2Proof

/-! ## The fields of a command word as numbers (R81, R82) -/

theorem opcOf_toNat (w : Word) : (opcOf w).toNat = w.toNat / 2 ^ 24 := by
  have h := w.isLt
  simp only [opcOf, BitVec.extractLsb'_toNat, Nat.shiftRight_eq_div_pow]
  omega

theorem low24Of_toNat (w : Word) : (low24Of w).toNat = w.toNat % 2 ^ 24 := by
  simp [low24Of]

theorem aboveByteOf_toNat (w : Word) : (aboveByteOf w).toNat = w.toNat % 2 ^ 24 / 2 ^ 8 := by
  simp only [aboveByteOf, BitVec.extractLsb'_toNat, Nat.shiftRight_eq_div_pow]
  omega

theorem selOf_toNat (w : Word) : (selOf w).toNat = w.toNat % 2 ^ 24 / 2 ^ 16 := by
  simp only [selOf, BitVec.extractLsb'_toNat, Nat.shiftRight_eq_div_pow]
  omega

theorem immOf_toNat (w : Word) : (immOf w).toNat = w.toNat % 2 ^ 16 := by
  simp [immOf]

theorem immlOf_toNat (w : Word) : (immlOf w).toNat = w.toNat % 2 ^ 8 := by
  simp [immlOf]

theorem dataHigh_toNat (d : DWord) : (dataHigh d).toNat = d.toNat / 2 ^ 32 := by
  have h := d.isLt
  simp only [dataHigh, BitVec.extractLsb'_toNat, Nat.shiftRight_eq_div_pow]
  omega

/-! ## A word from its fields (R81, R82) -/

/-- A word is its opcode and W[23:0] put together. -/
theorem commandWord_opcOf_low24Of (w : Word) : commandWord (opcOf w) (low24Of w) = w := by
  apply BitVec.eq_of_toNat_eq
  rw [commandWord_toNat, opcOf_toNat, low24Of_toNat]
  omega

/-- A word is built from its opcode and any operand with the number of W[23:0]. -/
theorem commandWord_opcOf_eq {w : Word} {operand : BitVec 24} (h : operand.toNat = w.toNat % 2 ^ 24) :
    commandWord (opcOf w) operand = w := by
  have hoperand : operand = low24Of w := BitVec.eq_of_toNat_eq (h.trans (low24Of_toNat w).symm)
  rw [hoperand, commandWord_opcOf_low24Of]

theorem commandWord_of_low24Of_zero {w : Word} (h : low24Of w = 0#24) : commandWord (opcOf w) 0#24 = w := by
  rw [← h, commandWord_opcOf_low24Of]

theorem commandWord_of_aboveByteOf_zero {w : Word} (h : aboveByteOf w = 0#16) :
    commandWord (opcOf w) ((immlOf w).setWidth 24) = w := by
  have habove := aboveByteOf_toNat w
  apply commandWord_opcOf_eq
  simp only [h, BitVec.toNat_setWidth, immlOf_toNat, BitVec.toNat_ofNat] at habove ⊢
  omega

theorem commandWord_of_selOf_zero {w : Word} (h : selOf w = 0#8) :
    commandWord (opcOf w) ((immOf w).setWidth 24) = w := by
  have hsel := selOf_toNat w
  apply commandWord_opcOf_eq
  simp only [h, BitVec.toNat_setWidth, immOf_toNat, BitVec.toNat_ofNat] at hsel ⊢
  omega

theorem commandWord_of_immOf_zero {w : Word} (h : immOf w = 0#16) :
    commandWord (opcOf w) ((selOf w).setWidth 24 <<< 16) = w := by
  have himm := immOf_toNat w
  apply commandWord_opcOf_eq
  simp only [h, BitVec.toNat_shiftLeft, Nat.shiftLeft_eq, BitVec.toNat_setWidth, selOf_toNat,
    BitVec.toNat_ofNat] at himm ⊢
  omega

/-- A data word with nothing above bit 31 is its low half (R83). -/
theorem setWidth_dataLow_of_dataHigh_zero {d : DWord} (h : dataHigh d = 0#32) : (dataLow d).setWidth 64 = d := by
  calc (dataLow d).setWidth 64 = 0#32 ++ dataLow d := BitVec.setWidth_eq_append (by omega)
    _ = dataHigh d ++ dataLow d := by rw [h]
    _ = d := dataHigh_append_dataLow d

@[simp] theorem dataHigh_append (dh dl : Word) : dataHigh (dh ++ dl) = dh := BitVec.extractLsb'_append_eq_left

@[simp] theorem dataLow_append (dh dl : Word) : dataLow (dh ++ dl) = dl := BitVec.extractLsb'_append_eq_right

/-! ## The words of a command (R80) -/

/-- The port words of a command word and its data word, which count only where W[31] announces them. -/
def portWords (w : Word) (d : DWord) : List Word := if carriesData w then withData w d else [w]

theorem portWords_of_single {opc : Byte} (operand : BitVec 24) (d : DWord) (h : opc.msb = false) :
    portWords (commandWord opc operand) d = [commandWord opc operand] := by
  simp [portWords, h]

theorem portWords_of_data {opc : Byte} (operand : BitVec 24) (d : DWord) (h : opc.msb = true) :
    portWords (commandWord opc operand) d = withData (commandWord opc operand) d := by
  simp [portWords, h]

/-- What is taken from the port stood first on it. -/
theorem port_eq_of_takeCommand {port rest : List Word} {w : Word} {d : DWord}
    (h : takeCommand port = some (w, d, rest)) : port = portWords w d ++ rest := by
  obtain ⟨hdata, rfl, rfl⟩ | ⟨dh, dl, hdata, rfl, rfl⟩ := takeCommand_cases h
  · simp [portWords, hdata]
  · simp [portWords, hdata, withData]

theorem decodePort_of_takeCommand {port rest : List Word} {w : Word} {d : DWord}
    (h : takeCommand port = some (w, d, rest)) : decodePort port = some (decodeWord w d, rest) := by
  simp [decodePort, h]

/-- A word that announces data waits while fewer than two words stand behind it. -/
theorem decodePort_of_data_missing {w : Word} {rest : List Word} (hdata : carriesData w = true)
    (hmissing : rest.length < 2) : decodePort (w :: rest) = none := by
  match rest with
  | [] | [_] => simp [decodePort, takeCommand, hdata]
  | _ :: _ :: _ => simp at hmissing

/-! ## The four layouts of R84: when the decoder reads a command, and when it does not -/

/-- Every layout checks its zero fields first. -/
theorem check_eq_cmd {c : Prop} [Decidable c] {i j : Instr} {e : Illegal} :
    (if c then Decoded.cmd i else .illegal e) = .cmd j ↔ c ∧ i = j := by
  split <;> simp [*]

theorem decodePlain_eq_cmd {w : Word} {i j : Instr} :
    decodePlain w i = .cmd j ↔ low24Of w = 0#24 ∧ i = j := check_eq_cmd

theorem decodeByteOp_eq_cmd {w : Word} {mk : Byte → Instr} {i : Instr} :
    decodeByteOp w mk = .cmd i ↔ aboveByteOf w = 0#16 ∧ mk (immlOf w) = i := check_eq_cmd

theorem decodeCrcCheck_eq_cmd {w : Word} {i : Instr} :
    decodeCrcCheck w = .cmd i ↔ selOf w = 0#8 ∧ .crcCheck (immOf w) = i := check_eq_cmd

theorem decodeCfgWr_eq_cmd {w : Word} {d : DWord} {i : Instr} :
    decodeCfgWr w d = .cmd i ↔
      selectorLegal (selOf w) = true ∧ (immOf w = 0#16 ∧ dataHigh d = 0#32) ∧ .cfgWr (selOf w) (dataLow d) = i := by
  cases hsel : selectorLegal (selOf w) with
  | false => simp [decodeCfgWr, hsel]
  | true => simpa [decodeCfgWr, hsel] using check_eq_cmd

theorem check_illegal_iff {c : Prop} [Decidable c] {i : Instr} {why : Illegal} :
    (∃ e, (if c then Decoded.cmd i else .illegal why) = .illegal e) ↔ ¬ c := by
  split <;> simp [*]

theorem decodePlain_illegal_iff (w : Word) (i : Instr) :
    (∃ e, decodePlain w i = .illegal e) ↔ w.toNat % 2 ^ 24 ≠ 0 := by
  rw [← low24Of_toNat]
  exact check_illegal_iff.trans (not_congr BitVec.toNat_eq)

theorem decodeByteOp_illegal_iff (w : Word) (mk : Byte → Instr) :
    (∃ e, decodeByteOp w mk = .illegal e) ↔ w.toNat % 2 ^ 24 / 2 ^ 8 ≠ 0 := by
  rw [← aboveByteOf_toNat]
  exact check_illegal_iff.trans (not_congr BitVec.toNat_eq)

theorem decodeCrcCheck_illegal_iff (w : Word) :
    (∃ e, decodeCrcCheck w = .illegal e) ↔ w.toNat % 2 ^ 24 / 2 ^ 16 ≠ 0 := by
  rw [← selOf_toNat]
  exact check_illegal_iff.trans (not_congr BitVec.toNat_eq)

/-- CFG_WR has two checks, of the selector and of the zero fields (R86). -/
theorem decodeCfgWr_illegal_iff (w : Word) (d : DWord) :
    (∃ e, decodeCfgWr w d = .illegal e) ↔
      5 ≤ w.toNat % 2 ^ 24 / 2 ^ 16 ∨ w.toNat % 2 ^ 16 ≠ 0 ∨ d.toNat / 2 ^ 32 ≠ 0 := by
  rw [← selOf_toNat, ← immOf_toNat, ← dataHigh_toNat]
  by_cases hsel : 5 ≤ (selOf w).toNat
  · have hlegal : selectorLegal (selOf w) = false := decide_eq_false (by omega)
    simp [decodeCfgWr, hlegal, hsel]
  · have hlegal : selectorLegal (selOf w) = true := decide_eq_true (by omega)
    rw [decodeCfgWr, if_pos hlegal, check_illegal_iff, not_and_or, or_iff_right hsel]
    exact or_congr (not_congr BitVec.toNat_eq) (not_congr BitVec.toNat_eq)

/-! ## The decoder by layout (R84) -/

/-- The opcodes of the commands that keep W[23:0] at 0 (R84). -/
def plainOpcodes : List Nat := [0x00, 0x01, 0x08, 0x10, 0x12, 0x14, 0x20, 0x21, 0x22, 0x30, 0x40, 0x81]

/-- The opcodes of the commands with a byte operand (R84). -/
def byteOpcodes : List Nat := [0x02, 0x11, 0x13, 0x31]

/-- The opcodes R84 lists. -/
def listedOpcodes : List Nat :=
  [0x00, 0x01, 0x02, 0x03, 0x08, 0x10, 0x11, 0x12, 0x13, 0x14, 0x20, 0x21, 0x22, 0x30, 0x31, 0x40, 0x80, 0x81]

/-- `i` is the command of a word with W[23:0] = 0, and the decoder checks just that. -/
structure ReadsPlain (w : Word) (d : DWord) (i : Instr) : Prop where
  opcode_mem : (opcOf w).toNat ∈ plainOpcodes
  decode_eq : decodeWord w d = decodePlain w i
  wf : i.wf = true
  encode_eq : encode i = portWords (commandWord (opcOf w) 0#24) d

/-- `mk b` is the command of a word with W[23:8] = 0 and byte operand `b`, and the decoder checks just that. -/
structure ReadsByteOp (w : Word) (d : DWord) (mk : Byte → Instr) : Prop where
  opcode_mem : (opcOf w).toNat ∈ byteOpcodes
  decode_eq : decodeWord w d = decodeByteOp w mk
  wf : ∀ b, (mk b).wf = true
  encode_eq : ∀ b, encode (mk b) = portWords (commandWord (opcOf w) (b.setWidth 24)) d

theorem opcOf_eq_ofNat {w : Word} {n : Nat} (h : (opcOf w).toNat = n) : opcOf w = BitVec.ofNat 8 n := by
  rw [← h, BitVec.ofNat_toNat, BitVec.setWidth_eq]

/-- One row of R84 without operands: the four facts are checked at the row's opcode. -/
theorem ReadsPlain.of_opcode {w : Word} {d : DWord} {i : Instr} {n : Nat} (h : (opcOf w).toNat = n)
    (hopcode : n ∈ plainOpcodes := by decide) (hwf : i.wf = true := by rfl)
    (hencode : encode i = portWords (commandWord (BitVec.ofNat 8 n) 0#24) d := by rfl)
    (hdecode : (opcOf w).toNat = n → decodeWord w d = decodePlain w i := by intro hopc; simp [decodeWord, hopc]) :
    ReadsPlain w d i :=
  ⟨h ▸ hopcode, hdecode h, hwf, opcOf_eq_ofNat h ▸ hencode⟩

/-- One row of R84 with a byte operand, in the same way. -/
theorem ReadsByteOp.of_opcode {w : Word} {d : DWord} {mk : Byte → Instr} {n : Nat} (h : (opcOf w).toNat = n)
    (hopcode : n ∈ byteOpcodes := by decide) (hwf : ∀ b, (mk b).wf = true := by intro _; rfl)
    (hencode : ∀ b, encode (mk b) = portWords (commandWord (BitVec.ofNat 8 n) (b.setWidth 24)) d := by
      intro _; exact (portWords_of_single _ _ rfl).symm)
    (hdecode : (opcOf w).toNat = n → decodeWord w d = decodeByteOp w mk := by intro hopc; simp [decodeWord, hopc]) :
    ReadsByteOp w d mk :=
  ⟨h ▸ hopcode, hdecode h, hwf, opcOf_eq_ofNat h ▸ hencode⟩

theorem decodeWord_of_unlisted {w : Word} (h : (opcOf w).toNat ∉ listedOpcodes) (d : DWord) :
    decodeWord w d = .illegal .unassignedOpcode := by
  simp only [listedOpcodes, List.mem_cons, List.not_mem_nil, or_false, not_or] at h
  simp [decodeWord, h]

/-- What the decoder does with a command word (R84, R85): it reads one of the four layouts, or R84 does not list the
opcode. -/
theorem decodeWord_cases (w : Word) (d : DWord) :
    (∃ i, ReadsPlain w d i) ∨ (∃ mk, ReadsByteOp w d mk)
    ∨ ((opcOf w).toNat = 0x03 ∧ decodeWord w d = decodeCrcCheck w)
    ∨ ((opcOf w).toNat = 0x80 ∧ decodeWord w d = decodeCfgWr w d)
    ∨ ((opcOf w).toNat ∉ listedOpcodes ∧ decodeWord w d = .illegal .unassignedOpcode) := by
  by_cases hlisted : (opcOf w).toNat ∈ listedOpcodes
  -- one line per row of R84, in the order of the opcodes
  · simp only [listedOpcodes, List.mem_cons, List.not_mem_nil, or_false] at hlisted
    obtain h | h | h | h | h | h | h | h | h | h | h | h | h | h | h | h | h | h := hlisted
    · exact .inl ⟨.nop, .of_opcode h⟩
    · exact .inl ⟨.crcInit, .of_opcode h⟩
    · exact .inr (.inl ⟨.crcByte, .of_opcode h⟩)
    · exact .inr (.inr (.inl ⟨h, by simp [decodeWord, h]⟩))
    · exact .inl ⟨.statClr, .of_opcode h⟩
    · exact .inl ⟨.txpClear, .of_opcode h⟩
    · exact .inr (.inl ⟨.txpPush, .of_opcode h⟩)
    · exact .inl ⟨.txfClear, .of_opcode h⟩
    · exact .inr (.inl ⟨.txfPush, .of_opcode h⟩)
    · exact .inl ⟨.txFrame, .of_opcode h⟩
    · exact .inl ⟨.modStart, .of_opcode h⟩
    · exact .inl ⟨.modSample, .of_opcode h⟩
    · exact .inl ⟨.modStop, .of_opcode h⟩
    · exact .inl ⟨.dmReset, .of_opcode h⟩
    · exact .inr (.inl ⟨.rxByte, .of_opcode h⟩)
    · exact .inl ⟨.cfgCommit, .of_opcode h⟩
    · exact .inr (.inr (.inr (.inl ⟨h, by simp [decodeWord, h]⟩)))
    · exact .inl ⟨.dmSample d, .of_opcode h⟩
  · exact .inr (.inr (.inr (.inr ⟨hlisted, decodeWord_of_unlisted hlisted d⟩)))

/-! ## What the decoder reads is what the encoder writes (R84, R85) -/

/-- A command the decoder reads is well-formed, and the words it was read from are its encoding. -/
theorem encode_of_decodeWord {w : Word} {d : DWord} {i : Instr} (h : decodeWord w d = .cmd i) :
    i.wf = true ∧ encode i = portWords w d := by
  obtain ⟨j, hplain⟩ | ⟨mk, hbyte⟩ | ⟨hopc, hdecode⟩ | ⟨hopc, hdecode⟩ | ⟨-, hdecode⟩ := decodeWord_cases w d
  · obtain ⟨hzero, rfl⟩ := decodePlain_eq_cmd.mp (hplain.decode_eq.symm.trans h)
    exact ⟨hplain.wf, by rw [hplain.encode_eq, commandWord_of_low24Of_zero hzero]⟩
  · obtain ⟨hzero, rfl⟩ := decodeByteOp_eq_cmd.mp (hbyte.decode_eq.symm.trans h)
    exact ⟨hbyte.wf _, by rw [hbyte.encode_eq, commandWord_of_aboveByteOf_zero hzero]⟩
  · obtain ⟨hzero, rfl⟩ := decodeCrcCheck_eq_cmd.mp (hdecode.symm.trans h)
    have hopc : opcOf w = 0x03 := opcOf_eq_ofNat hopc
    have hword : commandWord 0x03 ((immOf w).setWidth 24) = w :=
      hopc ▸ commandWord_of_selOf_zero hzero
    exact ⟨rfl, by rw [encode, ← portWords_of_single _ d rfl, hword]⟩
  · obtain ⟨hsel, ⟨hzero, hhigh⟩, rfl⟩ := decodeCfgWr_eq_cmd.mp (hdecode.symm.trans h)
    have hopc : opcOf w = 0x80 := opcOf_eq_ofNat hopc
    have hword : commandWord 0x80 ((selOf w).setWidth 24 <<< 16) = w :=
      hopc ▸ commandWord_of_immOf_zero hzero
    exact ⟨hsel, by
      rw [encode, setWidth_dataLow_of_dataHigh_zero hhigh, ← portWords_of_data _ d rfl, hword]⟩
  · rw [hdecode] at h
    contradiction

/-- Settles O1: the cases of a command, each read back from the word its opcode and operand build. -/
theorem decodeEncodeRoundTrip : Obligations.DecodeEncodeRoundTrip := decodePort_encode

/-- Settles O2: the words taken are those the decoder reads, and they are the command's encoding layout by layout. -/
theorem decodedWordsAreTheEncoding : Obligations.DecodedWordsAreTheEncoding := by
  intro port i rest h
  obtain ⟨w, d, htake, hdecode⟩ := takeCommand_of_decodePort h
  obtain ⟨hwf, hencode⟩ := encode_of_decodeWord hdecode
  exact ⟨hwf, by rw [hencode, port_eq_of_takeCommand htake]⟩

/-! ## Which encodings are illegal (R86) -/

/-- The opcode classes of R84 exclude each other. -/
theorem plainOpcodes_disjoint :
    ∀ n ∈ plainOpcodes, n ∈ listedOpcodes ∧ n ∉ byteOpcodes ∧ n ≠ 0x03 ∧ n ≠ 0x80 := by decide

theorem byteOpcodes_disjoint :
    ∀ n ∈ byteOpcodes, n ∈ listedOpcodes ∧ n ∉ plainOpcodes ∧ n ≠ 0x03 ∧ n ≠ 0x80 := by decide

/-- The decoder answers ILLEGAL by the class of the opcode. -/
theorem decodeWord_illegal_iff (w : Word) (d : DWord) :
    (∃ e, decodeWord w d = .illegal e) ↔
      ((opcOf w).toNat ∉ listedOpcodes
        ∨ ((opcOf w).toNat ∈ plainOpcodes ∧ w.toNat % 2 ^ 24 ≠ 0)
        ∨ ((opcOf w).toNat ∈ byteOpcodes ∧ w.toNat % 2 ^ 24 / 2 ^ 8 ≠ 0)
        ∨ ((opcOf w).toNat = 0x03 ∧ w.toNat % 2 ^ 24 / 2 ^ 16 ≠ 0)
        ∨ ((opcOf w).toNat = 0x80
            ∧ (5 ≤ w.toNat % 2 ^ 24 / 2 ^ 16 ∨ w.toNat % 2 ^ 16 ≠ 0 ∨ d.toNat / 2 ^ 32 ≠ 0))) := by
  obtain ⟨i, hplain⟩ | ⟨mk, hbyte⟩ | ⟨hopc, hdecode⟩ | ⟨hopc, hdecode⟩ | ⟨hopc, hdecode⟩ := decodeWord_cases w d
  · rw [hplain.decode_eq, decodePlain_illegal_iff]
    simp [hplain.opcode_mem, plainOpcodes_disjoint _ hplain.opcode_mem]
  · rw [hbyte.decode_eq, decodeByteOp_illegal_iff]
    simp [hbyte.opcode_mem, byteOpcodes_disjoint _ hbyte.opcode_mem]
  · rw [hdecode, decodeCrcCheck_illegal_iff]
    simp [hopc, listedOpcodes, plainOpcodes, byteOpcodes]
  · rw [hdecode, decodeCfgWr_illegal_iff]
    simp [hopc, listedOpcodes, plainOpcodes, byteOpcodes]
  · simp [hdecode, hopc]

/-- Settles O3: the classes of opcodes, with the opcode as the number W / 2^24. -/
theorem illegalEncodingsExactly : Obligations.IllegalEncodingsExactly := by
  intro w d
  rw [← opcOf_toNat]
  exact decodeWord_illegal_iff w d

end Sys2Proof

namespace Sys2Proof.Machine

/-! ## Illegal and incomplete commands in a step (R80, R86) -/

/-- Settles O4: an illegal command is taken whole and raised. -/
theorem illegalCommandRaises : Obligations.IllegalCommandRaises := by
  intro s w d rest e hreset htake hillegal
  have hport : decodePort s.port = some (.illegal e, rest) := by rw [decodePort_of_takeCommand htake, hillegal]
  rw [step_of_illegal s e rest hreset hport]
  rfl

/-- Settles O5: W[31] is the bit the cut looks at, and a step waits where no whole command is cut. -/
theorem commandsAreCutByBit31 : Obligations.CommandsAreCutByBit31 := by
  intro w dh dl rest
  have hbit : carriesData w = w.getLsbD 31 := BitVec.msb_eq_getLsbD_last w
  refine ⟨fun hclear => takeCommand_single w rest (hbit.trans hclear), fun hset => ⟨?_, ?_⟩, ?_⟩
  · exact takeCommand_data w dh dl rest (hbit.trans hset)
  · intro s hreset hport
    have hwaits : ∀ data : List Word, data.length < 2 → decodePort (w :: data) = none :=
      fun _ => decodePort_of_data_missing (hbit.trans hset)
    obtain hport | hport := hport <;> exact step_of_waiting s hreset (by rw [hport]; exact hwaits _ (by simp))
  · intro s hreset hport
    exact step_of_waiting s hreset (by rw [hport]; rfl)

end Sys2Proof.Machine

namespace Sys2Proof

/-! ## The examples of R90 -/

/-- Settles O6, by evaluating the decoder and the encoder on the examples. -/
theorem encodingExamplesDecode : Obligations.EncodingExamplesDecode := by
  unfold Obligations.EncodingExamplesDecode
  decide

end Sys2Proof

/-! # Proofs of the CRC statements (40_crc): the three commands, the register over a byte sequence, and the trace of
R107. -/

namespace Sys2Proof.Machine

/-! ## The commands of the CRC unit (R103 to R105) -/

theorem crcMatches_eq_decide (c v : Half) : crcMatches c v = decide (c = v) := rfl

theorem exec_crcInit (s : State) :
    exec .crcInit s = .next { s with crc := 0xFFFF, out := s.out ++ [.ok] } := rfl

theorem exec_crcByte (b : Byte) (s : State) :
    exec (.crcByte b) s = .next { s with crc := crcStep s.crc b, out := s.out ++ [.ok] } := rfl

theorem exec_crcCheck (v : Half) (s : State) :
    exec (.crcCheck v) s = .next { s with crcOk := decide (s.crc = v), out := s.out ++ [.ok] } := by
  rw [← crcMatches_eq_decide]
  rfl

/-- Settles O23, command by command. -/
theorem crcCommandResults : Obligations.CrcCommandResults := fun s b v =>
  ⟨exec_crcInit s, exec_crcByte b s, exec_crcCheck v s⟩

/-! ## The register after a byte sequence (R102) -/

@[simp] theorem crcFrom_nil (c : Half) : crcFrom c [] = c := rfl

@[simp] theorem crcFrom_cons (c : Half) (b : Byte) (bs : Bytes) : crcFrom c (b :: bs) = crcFrom (crcStep c b) bs := rfl

/-- The registers after each prefix of `bs` come one from another, a `crcStep` a byte. -/
theorem map_crcFrom_take (c : Half) (bs : Bytes) :
    (List.range (bs.length + 1)).map (fun k => crcFrom c (bs.take k)) = bs.scanl crcStep c := by
  apply List.ext_getElem
  · simp
  · simp [crcFrom, List.getElem_scanl]

/-- Settles O24: the trace is the scan of `crcStep` over the nine bytes, which the model evaluates. -/
theorem crcWorkedTrace : Obligations.CrcWorkedTrace :=
  (map_crcFrom_take 0xFFFF [0x31, 0x32, 0x33, 0x34, 0x35, 0x36, 0x37, 0x38, 0x39]).trans (by decide)

/-! ## The CRC commands over a byte sequence (R102, R105) -/

/-- Commands that end in `t` run before the others of a list, which start in `t`. -/
theorem execAll_append_of_next {is : List Instr} (js : List Instr) {s t : State} (h : execAll is s = .next t) :
    execAll (is ++ js) s = execAll js t := by
  induction is generalizing s with
  | nil => exact congrArg (execAll js) (Host.Outcome.next.inj h)
  | cons i is ih =>
    obtain ⟨u, hexec, -⟩ := exec_next i s
    rw [execAll_cons_of_next i is s u hexec] at h
    exact (execAll_cons_of_next i (is ++ js) s u hexec).trans (ih h)

/-- One CRC_BYTE per byte folds `crcStep` over the bytes from the register's value, with an `ok` for each. -/
theorem execAll_crcBytes (bs : Bytes) (s : State) :
    execAll (bs.map .crcByte) s =
      .next { s with crc := crcFrom s.crc bs, out := s.out ++ List.replicate bs.length .ok } := by
  induction bs generalizing s with
  | nil => simp [execAll]
  | cons b bs ih =>
    rw [List.map_cons, execAll_cons_of_next _ _ _ _ (exec_crcByte b s), ih]
    simp [List.replicate_succ]

/-- The pseudo-command CRC_OF (R89) leaves CRC16 of its bytes in CRC. -/
theorem execAll_crcOf (bs : Bytes) (s : State) :
    execAll (crcOf bs) s =
      .next { s with crc := crc16 bs, out := s.out ++ List.replicate (bs.length + 1) .ok } := by
  rw [crcOf, execAll_cons_of_next _ _ _ _ (exec_crcInit s), execAll_crcBytes]
  simp [crc16, List.replicate_succ]

/-- Settles O25: CRC_CHECK in the state that CRC_OF leaves. -/
theorem crcCommandsComputeChecksum : Obligations.CrcCommandsComputeChecksum := by
  intro bs v s
  rw [execAll_append_of_next _ (execAll_crcOf bs s), execAll_cons_of_next _ _ _ _ (exec_crcCheck v _)]
  simp [execAll, List.replicate_succ' (n := bs.length + 1)]

end Sys2Proof.Machine

/-! # Proofs of the framing statements (41_framing): the TXP and TXF commands, the laws of the framer, SCAN over
chunks and over frames, and single-bit errors under the checksum. -/

namespace Sys2Proof.Machine

/-! ## The TXP commands (R122, R123) -/

theorem exec_txpClear (s : State) :
    exec .txpClear s = .next { s with txp := [], txpOvf := false, out := s.out ++ [.ok] } := rfl

theorem exec_txpPush_of_full (b : Byte) {s : State} (h : s.txp.length = 65535) :
    exec (.txpPush b) s = .next { s with txpOvf := true, out := s.out ++ [.ok] } :=
  if_pos h

theorem exec_txpPush_of_room (b : Byte) {s : State} (h : s.txp.length ≠ 65535) :
    exec (.txpPush b) s = .next { s with txp := s.txp ++ [b], out := s.out ++ [.ok] } :=
  if_neg h

/-- Settles O28, command by command. -/
theorem txpCommandResults : Obligations.TxpCommandResults := fun s b =>
  ⟨exec_txpClear s, exec_txpPush_of_full b, exec_txpPush_of_room b⟩

/-! ## The TXF commands (R124 to R127, R230) -/

/-- The five bytes of R121 around the payload. -/
@[simp] theorem frame_length (p : Bytes) : (frame p).length = p.length + 5 := by
  simp [frame_eq]

section
variable {s : State}

theorem exec_txfClear_of_active (h : s.modActive = true) : exec .txfClear s = raise .busy s := if_pos h

theorem exec_txfPush_of_active (b : Byte) (h : s.modActive = true) : exec (.txfPush b) s = raise .busy s := if_pos h

theorem exec_txFrame_of_active (h : s.modActive = true) : exec .txFrame s = raise .busy s := if_pos h

/-- With the modulator idle, TXF_CLEAR has no other check. -/
theorem exec_txfClear_of_idle (h : s.modActive = false) :
    exec .txfClear s = .next { s with txf := [], out := s.out ++ [.ok] } :=
  if_neg (Bool.eq_false_iff.mp h)

/-- With the modulator idle, TXF_PUSH looks at the room in TXF alone. -/
theorem exec_txfPush_of_idle (b : Byte) (h : s.modActive = false) :
    exec (.txfPush b) s =
      if s.txf.length = Config.txfCap then raise .txOverflow s
      else .next { s with txf := s.txf ++ [b], out := s.out ++ [.ok] } := by
  simp [exec, execTxfPush, h, complete, appendOutcome]

/-- With the modulator idle, TX_FRAME looks at TXP_OVF first and then at the room in TXF. -/
theorem exec_txFrame_of_idle (h : s.modActive = false) :
    exec .txFrame s =
      if s.txpOvf = true then raise .payloadTooLarge s
      else if Config.txfCap < s.txf.length + s.txp.length + 5 then raise .txOverflow s
      else .next { s with txf := s.txf ++ frame s.txp, out := s.out ++ [.ok] } := by
  simp [exec, execTxFrame, h, complete, appendOutcome, Nat.add_assoc]

end

/-- Settles O29: the branch of each command in which no check fails. -/
theorem txfCommandResults : Obligations.TxfCommandResults := by
  intro s b hidle
  refine ⟨exec_txfClear_of_idle hidle, fun hroom => ?_, fun hpayload hroom => ?_⟩
  · rw [exec_txfPush_of_idle b hidle, if_neg hroom]
  · rw [exec_txFrame_of_idle hidle, if_neg (Bool.eq_false_iff.mp hpayload), if_neg (Nat.not_lt.mpr hroom)]

/-- Settles O30: the first check that fails names the error. -/
theorem txfCommandErrors : Obligations.TxfCommandErrors := by
  intro s b
  refine ⟨fun hactive => ?_, fun hidle hfull => ?_, fun hidle hlarge => ?_, fun hidle hpayload hover => ?_⟩
  · exact ⟨exec_txfClear_of_active hactive, exec_txfPush_of_active b hactive, exec_txFrame_of_active hactive⟩
  · rw [exec_txfPush_of_idle b hidle, if_pos hfull]
  · rw [exec_txFrame_of_idle hidle, if_pos hlarge]
  · rw [exec_txFrame_of_idle hidle, if_neg (Bool.eq_false_iff.mp hpayload), if_pos hover]

/-! ## RX_BYTE (R139, R142) -/

theorem exec_rxByte (b : Byte) (s : State) :
    exec (.rxByte b) s = .next { s with
      rxbuf := (scan (s.rxbuf ++ [b])).2, rxm := s.rxm ++ (scan (s.rxbuf ++ [b])).1
      rxmCount := s.rxmCount + BitVec.ofNat 32 (scan (s.rxbuf ++ [b])).1.length
      out := s.out ++ [.ok] } := rfl

/-- Settles O32: the register's sum is the sum of the numbers modulo 2^32. -/
theorem rxByteResult : Obligations.RxByteResult := by
  intro s b
  rw [exec_rxByte, BitVec.ofNat_add, BitVec.ofNat_toNat, BitVec.setWidth_eq]

/-! ## What SCAN decides at a marker (R136) -/

/-- A length field that announces more than has arrived (R136 step 3). -/
theorem candidate_of_short_body {hi lo : Byte} {body : Bytes} (h : body.length < hi.toNat * 256 + lo.toNat + 2) :
    candidate (hi :: lo :: body) = .incomplete := by
  rw [candidate_cons, if_pos h]

/-- A whole candidate frame, by its parts: only the checksum is left to decide (R136 steps 4 and 5). -/
theorem candidate_of_whole {hi lo : Byte} {p : Bytes} (hlen : hi.toNat * 256 + lo.toNat = p.length) (c d : Byte)
    (rest : Bytes) :
    candidate (hi :: lo :: (p ++ c :: d :: rest)) = if frameValid p c d then .valid p rest else .falseMarker := by
  have hwhole : ¬ (p ++ c :: d :: rest).length < p.length + 2 := by simp
  have hc : (p ++ c :: d :: rest).getD p.length 0 = c := by simp
  have hd : (p ++ c :: d :: rest).getD (p.length + 1) 0 = d := by simp
  have hrest : (p ++ c :: d :: rest).drop (p.length + 2) = rest := by simp [List.drop_append]
  rw [candidate_cons, hlen, if_neg hwhole, List.take_left, hc, hd, hrest]

/-- A candidate is incomplete, or it has all the parts of a frame. -/
theorem candidate_cases (tail : Bytes) :
    candidate tail = .incomplete
    ∨ ∃ hi lo p c d rest, tail = hi :: lo :: (p ++ c :: d :: rest) ∧ hi.toNat * 256 + lo.toNat = p.length := by
  match tail with
  | [] | [_] => exact .inl rfl
  | hi :: lo :: body =>
    by_cases hshort : body.length < hi.toNat * 256 + lo.toNat + 2
    · exact .inl (candidate_of_short_body hshort)
    · have htrailer : 2 ≤ (body.drop (hi.toNat * 256 + lo.toNat)).length := by
        rw [List.length_drop]
        omega
      match hparts : body.drop (hi.toNat * 256 + lo.toNat) with
      | [] | [_] => simp [hparts] at htrailer
      | c :: d :: rest =>
        refine .inr ⟨hi, lo, body.take (hi.toNat * 256 + lo.toNat), c, d, rest, ?_, ?_⟩
        · rw [← hparts, List.take_append_drop]
        · rw [List.length_take]
          omega

/-- A decision with more bytes behind the candidate (`candidate_append`): they join what stands behind a frame. -/
def Candidate.followedBy (later : Bytes) : Candidate → Candidate
  | .incomplete => .incomplete
  | .valid payload rest => .valid payload (rest ++ later)
  | .falseMarker => .falseMarker

/-- A decision to take a frame or to pass a marker stands whatever arrives later. -/
theorem candidate_append {tail : Bytes} (h : candidate tail ≠ .incomplete) (later : Bytes) :
    candidate (tail ++ later) = (candidate tail).followedBy later := by
  obtain hinc | ⟨hi, lo, p, c, d, rest, rfl, hlen⟩ := candidate_cases tail
  · exact absurd hinc h
  · have hlater : hi :: lo :: (p ++ c :: d :: rest) ++ later = hi :: lo :: (p ++ c :: d :: (rest ++ later)) := by simp
    rw [hlater, candidate_of_whole hlen, candidate_of_whole hlen]
    split <;> rfl

/-! ## The passes of SCAN (R137, R138) -/

theorem fromMarker_marker (tail : Bytes) : fromMarker (Config.marker :: tail) = Config.marker :: tail := rfl

theorem fromMarker_cons_of_ne {b : Byte} (h : b ≠ Config.marker) (buf : Bytes) :
    fromMarker (b :: buf) = fromMarker buf :=
  fromMarker_append_garbage [b] buf (by simpa using h.symm)

/-- A pass depends on the buffer only from its first marker on. -/
theorem scanLoop_congr {a b : Bytes} (h : fromMarker a = fromMarker b) (passes : Nat) :
    scanLoop (passes + 1) a = scanLoop (passes + 1) b := by
  simp only [scanLoop, h]

/-- Any two numbers of passes above the buffer's length do the same, since a pass that goes on takes at least the
marker off. -/
theorem scanLoop_passes_irrel {m n : Nat} {buf : Bytes} (hm : buf.length < m) (hn : buf.length < n) :
    scanLoop m buf = scanLoop n buf := by
  induction m generalizing n buf with
  | zero => contradiction
  | succ m ih =>
    obtain ⟨n, rfl⟩ := Nat.exists_eq_add_one_of_ne_zero (Nat.ne_zero_of_lt hn)
    have hle := fromMarker_length_le buf
    obtain hnone | ⟨tail, hmarker⟩ := fromMarker_cases buf
    · simp only [scanLoop, hnone]
    rw [hmarker, List.length_cons] at hle
    cases hdec : candidate tail with
    | incomplete => simp only [scanLoop, hmarker, hdec]
    | valid payload rest =>
      have hrest := candidate_valid_length hdec
      simp only [scanLoop, hmarker, hdec, ih (n := n) (buf := rest) (by omega) (by omega)]
    | falseMarker => simp only [scanLoop, hmarker, hdec, ih (n := n) (buf := tail) (by omega) (by omega)]

theorem scanLoop_eq_scan {passes : Nat} {buf : Bytes} (h : buf.length < passes) : scanLoop passes buf = scan buf :=
  scanLoop_passes_irrel h (Nat.lt_succ_self _)

/-- Settles O33. -/
theorem scanEndsWithinPasses : Obligations.ScanEndsWithinPasses := fun _ _ h => scanLoop_eq_scan h

/-! ## SCAN, case by case (R136, R137)

The equations below and the induction that follows them say all of SCAN; what comes after does not speak of passes. -/

@[simp] theorem scan_nil : scan [] = ([], []) := rfl

theorem scan_append_garbage {g : Bytes} (h : Config.marker ∉ g) (buf : Bytes) : scan (g ++ buf) = scan buf := by
  have hlen : buf.length < (g ++ buf).length + 1 := by
    rw [List.length_append]
    omega
  rw [← scanLoop_eq_scan hlen]
  exact scanLoop_congr (fromMarker_append_garbage g buf h) _

theorem scan_cons_of_ne {b : Byte} (h : b ≠ Config.marker) (buf : Bytes) : scan (b :: buf) = scan buf :=
  scan_append_garbage (g := [b]) (by simpa using h.symm) buf

theorem scan_of_incomplete {tail : Bytes} (h : candidate tail = .incomplete) :
    scan (Config.marker :: tail) = ([], Config.marker :: tail) := by
  simp only [scan, scanLoop, fromMarker_marker, h]

theorem scan_of_valid {tail payload rest : Bytes} (h : candidate tail = .valid payload rest) :
    scan (Config.marker :: tail) = (payload :: (scan rest).1, (scan rest).2) := by
  have hlen : rest.length < (Config.marker :: tail).length := Nat.lt_succ_of_lt (candidate_valid_length h)
  rw [← scanLoop_eq_scan hlen]
  simp only [scan, scanLoop, fromMarker_marker, h]

theorem scan_of_falseMarker {tail : Bytes} (h : candidate tail = .falseMarker) :
    scan (Config.marker :: tail) = scan tail := by
  rw [← scanLoop_eq_scan (passes := (Config.marker :: tail).length) (Nat.lt_succ_self _)]
  simp only [scan, scanLoop, fromMarker_marker, h]

/-- Induction along the buffers that SCAN goes through: garbage byte by byte, then what each decision leaves. -/
theorem scan_induction {P : Bytes → Prop} (nil : P [])
    (garbage : ∀ b buf, b ≠ Config.marker → P buf → P (b :: buf))
    (incomplete : ∀ tail, candidate tail = .incomplete → P (Config.marker :: tail))
    (valid : ∀ tail payload rest, candidate tail = .valid payload rest → P rest → P (Config.marker :: tail))
    (falseMarker : ∀ tail, candidate tail = .falseMarker → P tail → P (Config.marker :: tail)) (buf : Bytes) :
    P buf := by
  induction hn : buf.length using Nat.strong_induction_on generalizing buf with
  | _ n ih =>
    subst hn
    match buf with
    | [] => exact nil
    | b :: tail =>
      by_cases hb : b = Config.marker
      · subst hb
        cases hdec : candidate tail with
        | incomplete => exact incomplete tail hdec
        | valid payload rest =>
          have hlen := Nat.lt_succ_of_lt (candidate_valid_length hdec)
          exact valid tail payload rest hdec (ih _ hlen rest rfl)
        | falseMarker => exact falseMarker tail hdec (ih _ (Nat.lt_succ_self _) tail rfl)
      · exact garbage b tail hb (ih _ (Nat.lt_succ_self _) tail rfl)

/-! ## The remainder (R140, R144) -/

/-- The three forms of R140, read off `remainderForm`. -/
theorem forms_of_remainderForm {r : Bytes} (h : remainderForm r = true) :
    r = [] ∨ r = [Config.marker] ∨ (∃ x, r = [Config.marker, x])
    ∨ ∃ hi lo body, r = Config.marker :: hi :: lo :: body ∧ r.length < 5 + (hi.toNat * 256 + lo.toNat) := by
  match r with
  | [] => exact .inl rfl
  | [m] =>
    obtain rfl : m = Config.marker := by simpa [remainderForm] using h
    exact .inr (.inl rfl)
  | [m, x] =>
    obtain rfl : m = Config.marker := by simpa [remainderForm] using h
    exact .inr (.inr (.inl ⟨x, rfl⟩))
  | m :: hi :: lo :: body =>
    simp only [remainderForm, append_toNat, Bool.and_eq_true, beq_iff_eq, decide_eq_true_eq] at h
    obtain ⟨rfl, hshort⟩ := h
    refine .inr (.inr (.inr ⟨hi, lo, body, rfl, ?_⟩))
    simp only [List.length_cons]
    omega

/-- Settles O34: RXBUF holds a remainder of SCAN. -/
theorem remainderForms : Obligations.RemainderForms := by
  intro b s
  have hform : remainderForm (rxAppend b s).rxbuf = true := remainderForm_scan (s.rxbuf ++ [b])
  exact ⟨forms_of_remainderForm hform, remainderForm_length hform⟩

/-- Settles O37: the garbage is dropped, and the candidate behind it is incomplete. -/
theorem falseMarkerHoldsBack : Obligations.FalseMarkerHoldsBack := by
  intro g rest hi lo hg hshort
  rw [scan_append_garbage hg]
  exact scan_of_incomplete (candidate_of_short_body hshort)

/-! ## SCAN over chunks and byte by byte (R143) -/

/-- R143's law, by the cases of SCAN of the first chunk: what it has decided stands when the second arrives. -/
theorem scan_append (a b : Bytes) :
    scan (a ++ b) = ((scan a).1 ++ (scan ((scan a).2 ++ b)).1, (scan ((scan a).2 ++ b)).2) := by
  induction a using scan_induction with
  | nil => simp
  | garbage x buf hx ih => rw [List.cons_append, scan_cons_of_ne hx, scan_cons_of_ne hx, ih]
  | incomplete tail h => simp [scan_of_incomplete h]
  | valid tail payload rest h ih =>
    have hlater : candidate (tail ++ b) = .valid payload (rest ++ b) := by
      rw [candidate_append (by simp [h]), h, Candidate.followedBy]
    rw [List.cons_append, scan_of_valid hlater, scan_of_valid h, ih]
    rfl
  | falseMarker tail h ih =>
    have hlater : candidate (tail ++ b) = .falseMarker := by
      rw [candidate_append (by simp [h]), h, Candidate.followedBy]
    rw [List.cons_append, scan_of_falseMarker hlater, scan_of_falseMarker h, ih]

/-- A remainder holds no message and no garbage: SCAN of it gives it back. -/
theorem scan_remainder (buf : Bytes) : scan (scan buf).2 = ([], (scan buf).2) := by
  have h := scan_append buf []
  rw [List.append_nil, List.append_nil, Prod.ext_iff] at h
  obtain ⟨hmessages, hremainder⟩ := h
  exact Prod.ext (List.self_eq_append_right.mp hmessages) hremainder.symm

/-- RX_BYTE byte by byte on top of a remainder is one SCAN of the remainder and the bytes. -/
theorem execAll_rxBytes (stream : Bytes) {s : State} (hrem : scan s.rxbuf = ([], s.rxbuf)) :
    execAll (rxBytes stream) s = .next { s with
      rxbuf := (scan (s.rxbuf ++ stream)).2, rxm := s.rxm ++ (scan (s.rxbuf ++ stream)).1
      rxmCount := s.rxmCount + BitVec.ofNat 32 (scan (s.rxbuf ++ stream)).1.length
      out := s.out ++ List.replicate stream.length .ok } := by
  induction stream generalizing s with
  | nil => simp [rxBytes, execAll, hrem]
  | cons b stream ih =>
    have hchunk := scan_append (s.rxbuf ++ [b]) stream
    rw [List.append_assoc, List.singleton_append] at hchunk
    rw [rxBytes, List.map_cons, execAll_cons_of_next _ _ _ _ (exec_rxByte b s)]
    rw [← rxBytes, ih (scan_remainder _), hchunk]
    simp [BitVec.ofNat_add, BitVec.add_assoc, List.replicate_succ]

/-- Settles O35: an empty RXBUF is a remainder. -/
theorem scanIsChunkIndependent : Obligations.ScanIsChunkIndependent := by
  refine ⟨scan_append, fun stream s hempty => ?_⟩
  rw [execAll_rxBytes stream (by rw [hempty, scan_nil]), hempty, List.nil_append]

/-! ## SCAN over frames (R121, R128) -/

/-- The length field of a frame announces its payload's length. -/
theorem lengthField_toNat {n : Nat} (h : n ≤ 65535) :
    (highByte (BitVec.ofNat 16 n)).toNat * 256 + (lowByte (BitVec.ofNat 16 n)).toNat = n := by
  rw [← append_toNat, highByte_append_lowByte, BitVec.toNat_ofNat]
  omega

/-- A candidate with the trailer of a frame is valid exactly if it has the checksum of the frame's payload (R106). -/
theorem frameValid_checksum (p q : Bytes) :
    frameValid p (highByte (crc16 q)) (lowByte (crc16 q)) = true ↔ crc16 p = crc16 q := by
  simp [frameValid]

/-- SCAN takes a frame that stands first as one message, whatever follows it. -/
theorem scan_frame_append {p : Bytes} (h : p.length ≤ 65535) (rest : Bytes) :
    scan (frame p ++ rest) = (p :: (scan rest).1, (scan rest).2) := by
  rw [frame_eq, List.cons_append, List.cons_append, List.cons_append, List.append_assoc]
  apply scan_of_valid
  exact (candidate_of_whole (lengthField_toNat h) _ _ rest).trans (if_pos ((frameValid_checksum p p).mpr rfl))

theorem scan_frame {p : Bytes} (h : p.length ≤ 65535) : scan (frame p) = ([p], []) := by
  simpa using scan_frame_append h []

/-- Settles O31: the round trip makes FRAME injective. -/
theorem framerLaws : Obligations.FramerLaws := by
  refine ⟨fun p => ⟨frame_length p, rfl⟩, fun p => scan_frame, fun p q hp hq heq => ?_⟩
  have hscan : ([p], []) = ([q], []) := (scan_frame hp).symm.trans (heq ▸ scan_frame hq)
  simpa using hscan

/-! ## Single-bit errors under the checksum (R100, R145) -/

/-- 0xA001 has its top bit set, so the bit that `crcShift` shifts out comes back in at the top. -/
theorem crcShift_msb (c : Half) : (crcShift c).msb = c.getLsbD 0 := by
  unfold crcShift
  split
  next hbit =>
    have htop : (0xA001#16).msb = true := rfl
    rw [hbit]
    simp [BitVec.msb_xor, htop]
  next hbit => simpa [BitVec.msb_ushiftRight] using hbit

theorem crcShift_injective : Function.Injective crcShift := by
  intro c d h
  have hlow : c.getLsbD 0 = d.getLsbD 0 := by rw [← crcShift_msb, h, crcShift_msb]
  have hhigh : c >>> 1 = d >>> 1 := by
    unfold crcShift at h
    rw [hlow] at h
    split at h
    · exact BitVec.xor_left_inj _ |>.mp h
    · exact h
  apply BitVec.eq_of_getLsbD_eq
  intro k _
  cases k with
  | zero => exact hlow
  | succ k => simpa [Nat.add_comm] using congrArg (BitVec.getLsbD · k) hhigh

theorem crcShifts_injective (k : Nat) : Function.Injective (crcShifts k) := by
  induction k with
  | zero => exact fun _ _ h => h
  | succ k ih => exact ih.comp crcShift_injective

/-- Different registers stay different under one byte. -/
theorem crcStep_injective (b : Byte) : Function.Injective (crcStep · b) := fun _ _ h =>
  BitVec.xor_left_inj _ |>.mp (crcShifts_injective 8 h)

/-- Different bytes leave different registers. -/
theorem crcStep_injective_byte (c : Half) : Function.Injective (crcStep c) := by
  intro b b' h
  have hwide : b.setWidth 16 = b'.setWidth 16 := BitVec.xor_right_inj _ |>.mp (crcShifts_injective 8 h)
  simpa using congrArg (BitVec.setWidth 8) hwide

theorem crcFrom_append (c : Half) (as bs : Bytes) : crcFrom c (as ++ bs) = crcFrom (crcFrom c as) bs :=
  List.foldl_append

theorem crcFrom_injective (bs : Bytes) : Function.Injective (crcFrom · bs) := by
  induction bs with
  | nil => exact fun _ _ h => h
  | cons b bs ih => exact ih.comp (crcStep_injective b)

/-- Two byte sequences that differ in one byte have different checksums. -/
theorem crc16_ne_of_byte_ne (before after : Bytes) {b b' : Byte} (h : b ≠ b') :
    crc16 (before ++ b :: after) ≠ crc16 (before ++ b' :: after) := by
  rw [crc16, crc16, crcFrom_append, crcFrom_append, crcFrom_cons, crcFrom_cons]
  exact fun heq => h (crcStep_injective_byte _ (crcFrom_injective after heq))

theorem flipBit_ne (b : Byte) (j : Fin 8) : b ^^^ (1#8 <<< j.val) ≠ b := by
  have hbit : ∀ j : Fin 8, 1#8 <<< j.val ≠ 0#8 := by decide
  exact fun h => hbit j (BitVec.xor_right_inj b |>.mp (h.trans BitVec.xor_zero.symm))

/-- Settles O26: a byte with a bit flipped is another byte. -/
theorem crcDetectsSingleBitError : Obligations.CrcDetectsSingleBitError := fun before after b j =>
  crc16_ne_of_byte_ne before after (flipBit_ne b j)

/-! ## The testable scanner properties (R145) -/

/-- A frame without its last byte is a marker with an incomplete candidate. -/
theorem scan_frame_dropLast {p : Bytes} (h : p.length ≤ 65535) :
    scan (frame p).dropLast = ([], (frame p).dropLast) := by
  have hparts : (frame p).dropLast = Config.marker :: highByte (BitVec.ofNat 16 p.length)
      :: lowByte (BitVec.ofNat 16 p.length) :: (p ++ [highByte (crc16 p)]) := by
    rw [frame_eq, List.append_cons]
    simp only [← List.cons_append, List.dropLast_concat]
  rw [hparts]
  apply scan_of_incomplete
  apply candidate_of_short_body
  rw [lengthField_toNat h]
  simp

/-- A frame in which one payload byte is replaced, by its parts: the checksum stays that of the payload sent. -/
theorem frame_set_payload (before after : Bytes) (b b' : Byte) :
    (frame (before ++ b :: after)).set (3 + before.length) b' =
      Config.marker :: highByte (BitVec.ofNat 16 (before ++ b :: after).length)
        :: lowByte (BitVec.ofNat 16 (before ++ b :: after).length)
        :: ((before ++ b' :: after)
            ++ [highByte (crc16 (before ++ b :: after)), lowByte (crc16 (before ++ b :: after))]) := by
  rw [frame_eq, Nat.add_comm]
  simp

/-- A frame with one payload byte replaced is a false marker, and with no marker behind it all of it is dropped. -/
theorem scan_corrupted_frame_append {before after : Bytes} {b b' : Byte}
    (hlen : (before ++ b :: after).length ≤ 65535) (hne : b' ≠ b)
    (hmarker : Config.marker ∉ ((frame (before ++ b :: after)).set (3 + before.length) b').tail) (rest : Bytes) :
    scan ((frame (before ++ b :: after)).set (3 + before.length) b' ++ rest) = scan rest := by
  rw [frame_set_payload] at hmarker ⊢
  rw [List.tail_cons] at hmarker
  rw [List.cons_append, scan_of_falseMarker, scan_append_garbage hmarker]
  have hfield := lengthField_toNat hlen
  have hcrc : ¬ frameValid (before ++ b' :: after) (highByte (crc16 (before ++ b :: after)))
      (lowByte (crc16 (before ++ b :: after))) = true :=
    fun hvalid => crc16_ne_of_byte_ne before after hne ((frameValid_checksum _ _).mp hvalid)
  rw [List.cons_append, List.cons_append, List.append_assoc]
  have hsame : (before ++ b :: after).length = (before ++ b' :: after).length := by simp
  exact (candidate_of_whole (hfield.trans hsame) _ _ rest).trans (if_neg hcrc)

/-- Settles O36: what stands before a frame and is dropped or taken leaves SCAN of the frame. -/
theorem scannerTestableProperties : Obligations.ScannerTestableProperties := by
  refine ⟨fun g p hg hp => ?garbage, fun p q hp hq => ?frames, fun p => scan_frame_dropLast,
    fun before after q b j hlen hq hmarker => ?corrupted⟩
  case garbage => rw [scan_append_garbage hg, scan_frame hp]
  case frames => rw [scan_frame_append hp, scan_frame hq]
  case corrupted => rw [scan_corrupted_frame_append hlen (flipBit_ne b j) hmarker, scan_frame hq]

end Sys2Proof.Machine

/-! # Proofs of the modulator statements (42_modulator): the transmitted bits, the modulator's commands, and a
transmission sample by sample. -/

namespace Sys2Proof.Machine

/-! ## Blocks of equal length in one index -/

/-- `m` blocks of `n` elements each, as one list: element `k` is element `k % n` of block `k / n`. -/
theorem flatMap_range_map_range {α : Type} (f : Nat → Nat → α) (m n : Nat) :
    ((List.range m).flatMap fun i => (List.range n).map (f i)) =
      (List.range (m * n)).map fun k => f (k / n) (k % n) := by
  induction m with
  | zero => simp
  | succ m ih =>
    have hblock : (List.range n).map (f m) =
        (List.range n).map fun j => f ((m * n + j) / n) ((m * n + j) % n) := by
      refine List.map_congr_left fun j hj => ?_
      have hlt : j < n := List.mem_range.mp hj
      obtain ⟨hdiv, hmod⟩ : (m * n + j) / n = m ∧ (m * n + j) % n = j :=
        (Nat.div_mod_unique (Nat.zero_lt_of_lt hlt)).mpr ⟨by rw [Nat.mul_comm, Nat.add_comm], hlt⟩
      rw [hdiv, hmod]
    rw [List.range_succ, List.flatMap_append, ih, Nat.succ_mul, List.range_add, List.map_append, List.map_map,
      List.flatMap_singleton, hblock]
    rfl

/-- The next index within a block. -/
theorem succ_div_mod_of_lt {k n : Nat} (h : k % n + 1 < n) : (k + 1) / n = k / n ∧ (k + 1) % n = k % n + 1 := by
  refine (Nat.div_mod_unique (Nat.zero_lt_of_lt h)).mpr ⟨?_, h⟩
  have := Nat.mod_add_div k n
  omega

/-- The next index after the last one of a block is the first of the next block. -/
theorem succ_div_mod_of_le {k n : Nat} (hn : 0 < n) (h : n ≤ k % n + 1) :
    (k + 1) / n = k / n + 1 ∧ (k + 1) % n = 0 := by
  refine (Nat.div_mod_unique hn).mpr ⟨?_, hn⟩
  have := Nat.mod_add_div k n
  have := Nat.mod_lt k hn
  rw [Nat.mul_add]
  omega

/-! ## The transmitted bits (R150, R151) -/

theorem txBitCount_eq (txf : Bytes) : txBitCount txf = 64 + 8 * txf.length := rfl

theorem txBit_preamble (txf : Bytes) {i : Nat} (h : i < 64) : txBit txf i = (i % 2 == 1) := if_pos h

theorem txBit_payload (txf : Bytes) (k : Nat) : txBit txf (64 + k) = (txfByte txf (k / 8)).getLsbD (7 - k % 8) := by
  have hpast : ¬ 64 + k < Config.preambleLen := Nat.not_lt.mpr (Nat.le_add_right 64 k)
  have hk : 64 + k - Config.preambleLen = k := Nat.add_sub_cancel_left 64 k
  rw [txBit, if_neg hpast, hk]

theorem map_txfByte_range (txf : Bytes) : (List.range txf.length).map (txfByte txf) = txf := by
  apply List.ext_getElem
  · simp
  · intro j _ hj
    simp [txfByte, hj]

/-- The first 64 bits are 32 times 0, 1 (R151). -/
theorem map_txBit_preamble (txf : Bytes) :
    (List.range 64).map (txBit txf) = (List.replicate 32 [false, true]).flatten :=
  calc (List.range 64).map (txBit txf)
      = (List.range 64).map fun i => i % 2 == 1 :=
        List.map_congr_left fun _ hi => txBit_preamble txf (List.mem_range.mp hi)
    _ = (List.replicate 32 [false, true]).flatten := by decide

/-- The bits behind the preamble are the bytes of TXF, most-significant bit first (R68). -/
theorem map_txBit_payload (txf : Bytes) :
    (List.range (8 * txf.length)).map (fun k => txBit txf (64 + k)) = txf.flatMap bitsMsb :=
  calc (List.range (8 * txf.length)).map (fun k => txBit txf (64 + k))
      = (List.range (txf.length * 8)).map fun k => (txfByte txf (k / 8)).getLsbD (7 - k % 8) := by
        rw [Nat.mul_comm, funext (txBit_payload txf)]
    _ = (List.range txf.length).flatMap fun j => bitsMsb (txfByte txf j) :=
        (flatMap_range_map_range (fun j k => (txfByte txf j).getLsbD (7 - k)) txf.length 8).symm
    _ = ((List.range txf.length).map (txfByte txf)).flatMap bitsMsb := (List.flatMap_map ..).symm
    _ = txf.flatMap bitsMsb := by rw [map_txfByte_range]

/-- Settles O38: the preamble's bits, then TXF's. -/
theorem transmittedBits : Obligations.TransmittedBits := by
  intro txf
  rw [txBits, txBitCount_eq, List.range_add, List.map_append, List.map_map, map_txBit_preamble]
  exact congrArg _ (map_txBit_payload txf)

/-! ## The modulator's commands (R155 to R157) -/

theorem exec_modStart_of_configured {s : State} (h : s.cfgValid = true) :
    exec .modStart s = .next { s with
      modBit := 0, modN := 0, modTotal := BitVec.ofNat 32 (64 + 8 * s.txf.length), modActive := true
      modDone := false, out := s.out ++ [.ok] } := if_pos h

theorem exec_modStart_of_unconfigured {s : State} (h : s.cfgValid = false) :
    exec .modStart s = raise .invalidConfig s := if_neg (Bool.eq_false_iff.mp h)

theorem exec_modStop (s : State) : exec .modStop s = .next { s with modActive := false, out := s.out ++ [.ok] } := rfl

/-- Settles O39, command by command. -/
theorem modStartStopResults : Obligations.ModStartStopResults := fun s =>
  ⟨exec_modStart_of_configured, exec_modStart_of_unconfigured, exec_modStop s⟩

/-- MOD_N after one more sample (`exec_modSample_of_active`). -/
def nextModN (s : State) : Word := if s.modN.toNat + 1 < s.sps.toNat then s.modN + 1 else 0

/-- MOD_BIT after one more sample (`exec_modSample_of_active`). -/
def nextModBit (s : State) : Word := if s.modN.toNat + 1 < s.sps.toNat then s.modBit else s.modBit + 1

theorem advanceModulator_eq (s : State) :
    advanceModulator s = { s with
      modN := nextModN s, modBit := nextModBit s
      modActive := if nextModBit s = s.modTotal then false else s.modActive
      modDone := if nextModBit s = s.modTotal then true else s.modDone } := by
  obtain ⟨n, b, heq, ⟨hwithin, rfl, rfl⟩ | ⟨hend, rfl, rfl⟩⟩ := advanceModulator_cases s
  · rw [heq, nextModN, nextModBit, if_pos hwithin, if_pos hwithin]
    rfl
  · rw [heq, nextModN, nextModBit, if_neg (Nat.not_lt.mpr hend), if_neg (Nat.not_lt.mpr hend)]
    rfl

theorem exec_modSample_of_idle {s : State} (h : s.modActive = false) : exec .modSample s = raise .modIdle s :=
  if_neg (Bool.eq_false_iff.mp h)

theorem exec_modSample_of_active {s : State} (h : s.modActive = true) :
    exec .modSample s = .next { s with
      txs := s.txs ++ [Config.num.encode (dueSample Config.num s)], txsCount := s.txsCount + 1
      modN := nextModN s, modBit := nextModBit s
      modActive := decide (nextModBit s ≠ s.modTotal)
      modDone := if nextModBit s = s.modTotal then true else s.modDone
      out := s.out ++ [.ok] } := by
  have hexec : exec .modSample s = complete (advanceModulator (emitSample Config.num (dueSample Config.num s) s)) :=
    if_pos h
  have hgoes : decide (nextModBit s ≠ s.modTotal) = if nextModBit s = s.modTotal then false else s.modActive := by
    simp [h]
  rw [hexec, advanceModulator_eq, hgoes]
  rfl

/-- Settles O40. -/
theorem modSampleResult : Obligations.ModSampleResult := fun _ =>
  ⟨exec_modSample_of_idle, exec_modSample_of_active⟩

/-- Settles O43: an idle modulator emits nothing; an active one emits the due sample, and it and the next counters are
read from the fields the states agree on. -/
theorem modulatorReadsNothingElse : Obligations.ModulatorReadsNothingElse := by
  intro s u htxf hact hsps hactive hbit hn htotal hdone t v ht hv
  have hdue : dueSample Config.num s = dueSample Config.num u := by
    rw [dueSample, dueSample, htxf, hact, hbit, hn]
  have hnextN : nextModN s = nextModN u := by rw [nextModN, nextModN, hsps, hn]
  have hnextBit : nextModBit s = nextModBit u := by rw [nextModBit, nextModBit, hsps, hn, hbit]
  cases h : s.modActive with
  | false =>
    rw [exec_modSample_of_idle h, raise_eq_next] at ht
    rw [exec_modSample_of_idle (hactive ▸ h), raise_eq_next] at hv
    subst ht hv
    exact ⟨[], (List.append_nil _).symm, (List.append_nil _).symm, hactive, hbit, hn, htotal, hdone⟩
  | true =>
    rw [exec_modSample_of_active h] at ht
    rw [exec_modSample_of_active (hactive ▸ h), ← hdue, ← hnextN, ← hnextBit, ← htotal, ← hdone] at hv
    cases ht
    cases hv
    exact ⟨_, rfl, rfl, rfl, rfl, rfl, rfl, rfl⟩

/-! ## A transmission sample by sample (R154, R158) -/

/-- Sample `k` of a transmission under configuration `c`: sample `k % sps` of symbol `k / sps`. -/
def sampleAt {α : Type} (num : NumOps α) (c : Cfg) (sps : Nat) (txf : Bytes) (k : Nat) : α :=
  symbolSample num c (txBit txf (k / sps)) (BitVec.ofNat 32 (k % sps))

theorem encodeSamples_eq_map_sampleAt {α : Type} (num : NumOps α) (c : Cfg) (sps : Nat) (txf : Bytes) :
    encodeSamples num c sps txf = (List.range (txBitCount txf * sps)).map (sampleAt num c sps txf) := by
  rw [encodeSamples, txBits, List.flatMap_map]
  exact flatMap_range_map_range (fun i n => symbolSample num c (txBit txf i) (BitVec.ofNat 32 n)) _ sps

/-- The number of samples of a transmission of TXF (R154). -/
def sampleCount (s : State) : Nat := txBitCount s.txf * s.sps.toNat

/-- `s` after MOD_START and `k` MOD_SAMPLEs, `k` not above `sampleCount s` (`execAll_modStart_modRun`). -/
def afterSamples (s : State) (k : Nat) : State :=
  { s with
    txs := s.txs ++ (List.range k).map fun j =>
      Config.num.encode (sampleAt Config.num s.act s.sps.toNat s.txf j)
    txsCount := s.txsCount + BitVec.ofNat 32 k
    modBit := BitVec.ofNat 32 (k / s.sps.toNat), modN := BitVec.ofNat 32 (k % s.sps.toNat)
    modTotal := BitVec.ofNat 32 (txBitCount s.txf)
    modActive := decide (k < sampleCount s), modDone := decide (sampleCount s ≤ k)
    out := s.out ++ List.replicate (k + 1) .ok }

@[simp] theorem afterSamples_modActive (s : State) (k : Nat) :
    (afterSamples s k).modActive = decide (k < sampleCount s) := rfl

@[simp] theorem afterSamples_modDone (s : State) (k : Nat) :
    (afterSamples s k).modDone = decide (sampleCount s ≤ k) := rfl

section
variable {s : State} {k : Nat}

theorem sps_pos_of_lt_sampleCount (h : k < sampleCount s) : 0 < s.sps.toNat :=
  Nat.pos_of_mul_pos_left (Nat.zero_lt_of_lt h)

/-- MOD_TOTAL fits its register. -/
theorem txBitCount_lt {txf : Bytes} (h : txf.length ≤ 536870903) : txBitCount txf < 2 ^ 32 := by
  rw [txBitCount_eq]
  omega

theorem toNat_afterSamples_modN (h : k < sampleCount s) : (afterSamples s k).modN.toNat = k % s.sps.toNat :=
  Nat.mod_eq_of_lt (Nat.lt_trans (Nat.mod_lt k (sps_pos_of_lt_sampleCount h)) s.sps.isLt)

theorem toNat_afterSamples_modBit (hlen : s.txf.length ≤ 536870903) (h : k < sampleCount s) :
    (afterSamples s k).modBit.toNat = k / s.sps.toNat :=
  Nat.mod_eq_of_lt (Nat.lt_trans (Nat.div_lt_of_lt_mul (Nat.mul_comm .. ▸ h)) (txBitCount_lt hlen))

theorem dueSample_afterSamples (hlen : s.txf.length ≤ 536870903) (h : k < sampleCount s) :
    dueSample Config.num (afterSamples s k) = sampleAt Config.num s.act s.sps.toNat s.txf k := by
  rw [dueSample, toNat_afterSamples_modBit hlen h]
  rfl

/-- The counters go on as quotient and remainder of the samples sent. -/
theorem next_counters_afterSamples (h : k < sampleCount s) :
    nextModBit (afterSamples s k) = (afterSamples s (k + 1)).modBit
    ∧ nextModN (afterSamples s k) = (afterSamples s (k + 1)).modN := by
  have hpos := sps_pos_of_lt_sampleCount h
  rw [nextModBit, nextModN, toNat_afterSamples_modN h]
  by_cases hwithin : k % s.sps.toNat + 1 < s.sps.toNat
  · obtain ⟨hdiv, hmod⟩ := succ_div_mod_of_lt hwithin
    simp [afterSamples, hwithin, hdiv, hmod, BitVec.ofNat_add]
  · obtain ⟨hdiv, hmod⟩ := succ_div_mod_of_le hpos (Nat.not_lt.mp hwithin)
    simp [afterSamples, hwithin, hdiv, hmod, BitVec.ofNat_add]

/-- MOD_BIT reaches MOD_TOTAL with the last sample and not before (R156). -/
theorem modBit_eq_modTotal_afterSamples_iff (hlen : s.txf.length ≤ 536870903) (h : k < sampleCount s) :
    (afterSamples s (k + 1)).modBit = (afterSamples s k).modTotal ↔ ¬ k + 1 < sampleCount s := by
  have hpos := sps_pos_of_lt_sampleCount h
  have hle : (k + 1) / s.sps.toNat ≤ txBitCount s.txf := Nat.div_le_of_le_mul (Nat.mul_comm .. ▸ h)
  have hmax := txBitCount_lt hlen
  have hlt : (k + 1) / s.sps.toNat < txBitCount s.txf ↔ k + 1 < sampleCount s := Nat.div_lt_iff_lt_mul hpos
  have heq : (afterSamples s (k + 1)).modBit = (afterSamples s k).modTotal
      ↔ (k + 1) / s.sps.toNat = txBitCount s.txf := by
    simp only [afterSamples, ← BitVec.toNat_inj, BitVec.toNat_ofNat, Nat.mod_eq_of_lt hmax,
      Nat.mod_eq_of_lt (Nat.lt_of_le_of_lt hle hmax)]
  rw [heq, ← hlt]
  omega

/-- One more sample of a transmission that goes on. -/
theorem exec_modSample_afterSamples (hlen : s.txf.length ≤ 536870903) (h : k < sampleCount s) :
    exec .modSample (afterSamples s k) = .next (afterSamples s (k + 1)) := by
  obtain ⟨hbit, hn⟩ := next_counters_afterSamples h
  have hend := modBit_eq_modTotal_afterSamples_iff hlen h
  have htxs : (afterSamples s k).txs ++ [Config.num.encode (sampleAt Config.num s.act s.sps.toNat s.txf k)] =
      (afterSamples s (k + 1)).txs := by
    simp [afterSamples, List.range_succ]
  have hcount : (afterSamples s k).txsCount + 1 = (afterSamples s (k + 1)).txsCount := by
    simp [afterSamples, BitVec.ofNat_add, BitVec.add_assoc]
  have hactive : decide ((afterSamples s (k + 1)).modBit ≠ (afterSamples s k).modTotal) =
      (afterSamples s (k + 1)).modActive := by
    simp [hend]
  have hdone : (if (afterSamples s (k + 1)).modBit = (afterSamples s k).modTotal then true
      else (afterSamples s k).modDone) = (afterSamples s (k + 1)).modDone := by
    simp [hend, h]
  have hout : (afterSamples s k).out ++ [.ok] = (afterSamples s (k + 1)).out := by
    simp [afterSamples, List.replicate_succ' (n := k + 1)]
  rw [exec_modSample_of_active (decide_eq_true h), dueSample_afterSamples hlen h, hbit, hn, htxs, hcount, hactive,
    hdone, hout]
  rfl

theorem exec_modStart_eq_afterSamples (hvalid : s.cfgValid = true) (h : 0 < sampleCount s) :
    exec .modStart s = .next (afterSamples s 0) := by
  rw [exec_modStart_of_configured hvalid]
  simp [afterSamples, h, h.ne', txBitCount_eq]

/-- A transmission's run by induction on its samples, up to and with the last one. -/
theorem execAll_modStart_modRun (hvalid : s.cfgValid = true) (hpos : 0 < s.sps.toNat)
    (hlen : s.txf.length ≤ 536870903) (hk : k ≤ sampleCount s) :
    execAll (.modStart :: modRun k) s = .next (afterSamples s k) := by
  induction k with
  | zero =>
    have hcount : 0 < sampleCount s := Nat.mul_pos (Nat.add_pos_left (by decide) _) hpos
    exact execAll_cons_of_next _ _ _ _ (exec_modStart_eq_afterSamples hvalid hcount)
  | succ k ih =>
    rw [modRun, List.replicate_succ', ← List.cons_append]
    exact (execAll_append_of_next _ (ih (Nat.le_of_lt hk))).trans
      (execAll_cons_of_next _ [] _ _ (exec_modSample_afterSamples hlen hk))

end

/-- Settles O42: the counters of the state after `k` samples. -/
theorem sampleCountersAfterK : Obligations.SampleCountersAfterK := by
  intro s k hvalid hlen hk
  have hrun := execAll_modStart_modRun hvalid (sps_pos_of_lt_sampleCount hk) hlen (Nat.le_of_lt hk)
  exact ⟨_, hrun, decide_eq_true hk, toNat_afterSamples_modBit hlen hk, toNat_afterSamples_modN hk⟩

/-- Settles O41: the state after the last sample. -/
theorem transmissionEmitsEncode : Obligations.TransmissionEmitsEncode := by
  intro s hvalid hpos hlen
  refine (execAll_modStart_modRun hvalid hpos hlen (Nat.le_refl (sampleCount s))).trans ?_
  have hdiv : sampleCount s / s.sps.toNat = txBitCount s.txf := Nat.mul_div_left _ hpos
  have hmod : sampleCount s % s.sps.toNat = 0 := Nat.mul_mod_left _ _
  have htxs : ((List.range (sampleCount s)).map fun j =>
      Config.num.encode (sampleAt Config.num s.act s.sps.toNat s.txf j)) =
        (encodeSamples Config.num s.act s.sps.toNat s.txf).map Config.num.encode := by
    rw [encodeSamples_eq_map_sampleAt, List.map_map]
    rfl
  have hidle : decide (sampleCount s < sampleCount s) = false := decide_eq_false (Nat.lt_irrefl _)
  have hdone : decide (sampleCount s ≤ sampleCount s) = true := decide_eq_true (Nat.le_refl _)
  rw [afterSamples, hdiv, hmod, htxs, hidle, hdone]
  rfl

end Sys2Proof.Machine

/-! # Proofs of the demodulator statements (43_demodulator): the packer and the synchronizer bit by bit, the window
sample by sample, the loopback, and the detectors under exact reals. -/

namespace Sys2Proof.Machine

/-! ## What the receiver reads and writes (R170, P3)

`withReceiver u s` is `u` with the receiver of `s`. That an operation of the receiver commutes with `withReceiver u`
for every `u` says both that it reads nothing else and that it leaves everything else alone. -/

/-- `u` with the synchronizer, the packer, RXBUF and the RXM stream of `s`. -/
def withSync (u s : State) : State :=
  { u with
    syncLocked := s.syncLocked, syncSr := s.syncSr, bpAcc := s.bpAcc, bpCnt := s.bpCnt
    rxbuf := s.rxbuf, rxmCount := s.rxmCount, rxm := s.rxm }

/-- `withSync`, with the detectors, their coefficients, SPS and DM_N of `s` as well. -/
def withReceiver (u s : State) : State :=
  { withSync u s with
    sps := s.sps, coeff0 := s.coeff0, coeff1 := s.coeff1
    q10 := s.q10, q20 := s.q20, q11 := s.q11, q21 := s.q21, dmN := s.dmN }

theorem packBit_withSync (bit : Bool) (u s : State) :
    packBit bit (withSync u s) = withSync u (packBit bit s) := by
  rw [packBit, packBit, apply_ite (withSync u)]
  rfl

theorem syncBit_withSync (bit : Bool) (u s : State) :
    syncBit bit (withSync u s) = withSync u (syncBit bit s) := by
  simp only [syncBit, packBit_withSync, apply_ite (withSync u)]
  rfl

/-- SYNC_BIT leaves everything outside the synchronizer, the packer, RXBUF and RXM alone. -/
theorem syncBit_eq_withSync (bit : Bool) (s : State) : syncBit bit s = withSync s (syncBit bit s) :=
  syncBit_withSync bit s s

theorem syncBit_withReceiver (bit : Bool) (u s : State) :
    syncBit bit (withReceiver u s) = withReceiver u (syncBit bit s) := by
  rw [syncBit_eq_withSync bit s]
  exact syncBit_withSync bit (withReceiver u s) s

theorem takeSample_withReceiver (num : NumOps NumVal) (x : NumVal) (u s : State) :
    takeSample num x (withReceiver u s) = withReceiver u (takeSample num x s) := by
  rw [takeSample, takeSample, apply_ite (withReceiver u), ← syncBit_withReceiver]
  rfl

/-- A received sample leaves everything outside the receiver alone. -/
theorem takeSample_eq_withReceiver (num : NumOps NumVal) (x : NumVal) (s : State) :
    takeSample num x s = withReceiver s (takeSample num x s) :=
  takeSample_withReceiver num x s s

theorem takeSample_cfgValid (num : NumOps NumVal) (x : NumVal) (s : State) :
    (takeSample num x s).cfgValid = s.cfgValid := by
  rw [takeSample_eq_withReceiver]
  rfl

/-- States with the same receiver have the same receiver after a sample. -/
theorem takeSample_of_sameReceiver (num : NumOps NumVal) (x : NumVal) {u s : State} (h : withReceiver u s = u) :
    takeSample num x u = withReceiver u (takeSample num x s) := by
  rw [← takeSample_withReceiver, h]

theorem feedSamples_withReceiver (num : NumOps NumVal) (xs : List NumVal) (u s : State) :
    feedSamples num xs (withReceiver u s) = withReceiver u (feedSamples num xs s) := by
  induction xs generalizing s with
  | nil => rfl
  | cons x xs ih =>
    rw [feedSamples, List.foldl_cons, takeSample_withReceiver]
    exact ih _

/-- OUT plays no part in the receiver. -/
theorem feedSamples_appendOutcome (num : NumOps NumVal) (xs : List NumVal) (o : CmdOutcome) (s : State) :
    feedSamples num xs (appendOutcome o s) = appendOutcome o (feedSamples num xs s) := by
  have hframe : feedSamples num xs s = withReceiver s (feedSamples num xs s) := feedSamples_withReceiver num xs s s
  rw [hframe]
  exact feedSamples_withReceiver num xs (appendOutcome o s) s

/-! ## DM_SAMPLE and DM_RESET (R179, R180) -/

theorem exec_dmSample_of_unconfigured (d : DWord) {s : State} (h : s.cfgValid = false) :
    exec (.dmSample d) s = raise .invalidConfig s := if_neg (Bool.eq_false_iff.mp h)

theorem exec_dmSample_of_configured (d : DWord) {s : State} (h : s.cfgValid = true) :
    exec (.dmSample d) s = .next (appendOutcome .ok (takeSample Config.num (Config.num.decode d) s)) := if_pos h

theorem takeSample_of_within (num : NumOps NumVal) (x : NumVal) {s : State} (h : s.dmN.toNat + 1 < s.sps.toNat) :
    takeSample num x s = { detectorStep num x s with dmN := s.dmN + 1 } := if_pos h

theorem takeSample_of_last (num : NumOps NumVal) (x : NumVal) {s : State} (h : s.sps.toNat ≤ s.dmN.toNat + 1) :
    takeSample num x s =
      syncBit (slicedBit num (detectorStep num x s)) (clearWindow num (detectorStep num x s)) :=
  if_neg (Nat.not_lt.mpr h)

theorem appendOutcome_of_out_eq (o : CmdOutcome) {s t : State} (h : t.out = s.out) :
    appendOutcome o t = { t with out := s.out ++ [o] } := by
  rw [appendOutcome, h]

/-- Settles O44: the two branches of R179, and OUT, which SYNC_BIT leaves to the outcome. -/
theorem dmSampleResult : Obligations.DmSampleResult := by
  intro s d
  refine ⟨exec_dmSample_of_unconfigured d, fun hvalid => ⟨fun hwithin => ?_, fun hlast => ?_⟩⟩
  · rw [exec_dmSample_of_configured d hvalid, takeSample_of_within _ _ hwithin]
    rfl
  · rw [exec_dmSample_of_configured d hvalid, takeSample_of_last _ _ hlast]
    exact congrArg Host.Outcome.next (appendOutcome_of_out_eq .ok (commandEffect_syncBit _ _).out_eq)

theorem exec_dmReset (s : State) :
    exec .dmReset s = .next (appendOutcome .ok (clearReceiver Config.num s)) := rfl

/-- Settles O53: a second clearing finds the receiver clear. -/
theorem dmResetResult : Obligations.DmResetResult := by
  intro s
  refine ⟨exec_dmReset s, ?_⟩
  have hclear : clearReceiver Config.num (appendOutcome .ok (clearReceiver Config.num s)) =
      appendOutcome .ok (clearReceiver Config.num s) := rfl
  have hout : (s.out ++ [.ok]) ++ [.ok] = s.out ++ [.ok, .ok] := List.append_assoc ..
  rw [execAll_cons_of_next _ _ _ _ (exec_dmReset s), execAll_cons_of_next _ _ _ _ (exec_dmReset _), hclear, ← hout]
  rfl

/-- Settles O54: the fields exchanged lie outside the receiver. -/
theorem receiverIgnoresTransmitter : Obligations.ReceiverIgnoresTransmitter := by
  intro s t d txp txf ovf active done bit n total staged crc ht hvalid
  rw [exec_dmSample_of_configured d hvalid, takeSample_eq_withReceiver] at ht
  cases ht
  refine Eq.trans (exec_dmSample_of_configured d hvalid) ?_
  exact congrArg (fun r => Host.Outcome.next (appendOutcome .ok r)) (takeSample_of_sameReceiver _ _ rfl)

/-! ## One bit through the packer and the synchronizer (R176, R177) -/

/-- Shifting a bit in doubles the register's number and adds the bit. -/
theorem shiftConcat_eq_ofNat {w : Nat} (v : BitVec w) (bit : Bool) :
    v.shiftConcat bit = BitVec.ofNat w (2 * v.toNat + bit.toNat) := by
  apply BitVec.eq_of_toNat_eq
  rw [BitVec.toNat_shiftConcat, BitVec.toNat_ofNat, Nat.shiftLeft_eq, Nat.mul_comm, Nat.pow_one]

theorem packBit_of_last (bit : Bool) {s : State} (h : s.bpCnt = 7) :
    packBit bit s = rxAppend (s.bpAcc.shiftConcat bit) { s with bpAcc := 0, bpCnt := 0 } := by
  rw [← shiftLeft_or_bit]
  exact if_pos h

theorem packBit_of_within (bit : Bool) {s : State} (h : s.bpCnt ≠ 7) :
    packBit bit s = { s with bpAcc := s.bpAcc.shiftConcat bit, bpCnt := s.bpCnt + 1 } := by
  rw [← shiftLeft_or_bit]
  exact if_neg h

/-- Settles O46. -/
theorem packBitResult : Obligations.PackBitResult := by
  intro s bit
  rw [← shiftConcat_eq_ofNat]
  exact ⟨packBit_of_last bit, packBit_of_within bit⟩

theorem syncBit_of_locked (bit : Bool) {s : State} (h : s.syncLocked = true) : syncBit bit s = packBit bit s :=
  if_pos h

theorem syncBit_of_preamble {bit : Bool} {s : State} (h : s.syncLocked = false)
    (hsr : s.syncSr.shiftConcat bit = Config.preambleWord) :
    syncBit bit s = { s with syncSr := s.syncSr.shiftConcat bit, syncLocked := true, bpAcc := 0, bpCnt := 0 } := by
  rw [← shiftLeft_or_bit] at hsr ⊢
  exact (if_neg (Bool.eq_false_iff.mp h)).trans (if_pos hsr)

theorem syncBit_of_seeking {bit : Bool} {s : State} (h : s.syncLocked = false)
    (hsr : s.syncSr.shiftConcat bit ≠ Config.preambleWord) :
    syncBit bit s = { s with syncSr := s.syncSr.shiftConcat bit } := by
  rw [← shiftLeft_or_bit] at hsr ⊢
  exact (if_neg (Bool.eq_false_iff.mp h)).trans (if_neg hsr)

/-- Settles O45. -/
theorem syncBitResult : Obligations.SyncBitResult := by
  intro s bit
  rw [← shiftConcat_eq_ofNat]
  exact ⟨syncBit_of_locked bit, syncBit_of_preamble, syncBit_of_seeking⟩

/-! ## Bytes through the packer (R68, R178) -/

theorem feedBits_append (as bs : List Bool) (s : State) : feedBits (as ++ bs) s = feedBits bs (feedBits as s) :=
  List.foldl_append

/-- One bit more, given after the others. -/
theorem feedBits_concat (bits : List Bool) (bit : Bool) (s : State) :
    feedBits (bits ++ [bit]) s = syncBit bit (feedBits bits s) :=
  feedBits_append bits [bit] s

/-- The first `k` bits of a register, most-significant first. -/
def leadingBits {w : Nat} (v : BitVec w) (k : Nat) : List Bool := (List.range k).map fun i => v.getLsbD (w - 1 - i)

theorem bitsMsb_eq_leadingBits (b : Byte) : bitsMsb b = leadingBits b 8 := rfl

theorem leadingBits_succ {w : Nat} (v : BitVec w) (k : Nat) :
    leadingBits v (k + 1) = leadingBits v k ++ [v.getLsbD (w - 1 - k)] := by
  simp [leadingBits, List.range_succ]

/-- Of a register shifted in most-significant bit first, the register holds the top `k` bits after `k` of them. -/
theorem shiftRight_shiftConcat {w k : Nat} (v : BitVec w) (hk : k < w) :
    (v >>> (w - k)).shiftConcat (v.getLsbD (w - 1 - k)) = v >>> (w - (k + 1)) := by
  have hsub : w - 1 - k = w - k - 1 := Nat.sub_right_comm w 1 k
  rw [hsub, ← BitVec.shiftRight_sub_one_eq_shiftConcat v (Nat.sub_pos_of_lt hk)]
  rfl

/-- At a byte boundary in LOCKED, `k` bits of a byte, fewer than all, stand in the packer (R177). -/
theorem feedBits_leadingBits_of_locked (b : Byte) {s : State} (hlocked : s.syncLocked = true) (hacc : s.bpAcc = 0)
    (hcnt : s.bpCnt = 0) {k : Nat} (hk : k < 8) :
    feedBits (leadingBits b k) s = { s with bpAcc := b >>> (8 - k), bpCnt := BitVec.ofNat 3 k } := by
  induction k with
  | zero =>
    have hshift : b >>> 8 = s.bpAcc := (BitVec.ushiftRight_eq_zero (Nat.le_refl 8)).trans hacc.symm
    have hzero : BitVec.ofNat 3 0 = s.bpCnt := hcnt.symm
    rw [hshift, hzero]
    rfl
  | succ k ih =>
    have hwithin : BitVec.ofNat 3 k ≠ 7 := by
      intro h
      have := congrArg BitVec.toNat h
      simp at this
      omega
    rw [leadingBits_succ, feedBits_concat, ih (Nat.lt_of_succ_lt hk)]
    refine Eq.trans (syncBit_of_locked _ hlocked) (Eq.trans (packBit_of_within _ hwithin) ?_)
    rw [shiftRight_shiftConcat b (Nat.lt_of_succ_lt hk), BitVec.ofNat_add]
    rfl

/-- At a byte boundary in LOCKED the bits of a byte are its RX_APPEND (R178). -/
theorem feedBits_bitsMsb (b : Byte) {s : State} (hlocked : s.syncLocked = true) (hacc : s.bpAcc = 0)
    (hcnt : s.bpCnt = 0) : feedBits (bitsMsb b) s = rxAppend b s := by
  have hbyte : (b >>> 1).shiftConcat (b.getLsbD 0) = b := shiftRight_shiftConcat (k := 7) b (by decide)
  rw [bitsMsb_eq_leadingBits, leadingBits_succ, feedBits_concat,
    feedBits_leadingBits_of_locked b hlocked hacc hcnt (by decide)]
  refine Eq.trans (syncBit_of_locked _ hlocked) (Eq.trans (packBit_of_last _ rfl) ?_)
  rw [hbyte, ← hacc, ← hcnt]

/-- Settles O48: RX_APPEND leaves the byte boundary and the lock alone. -/
theorem lockedBitsDeliverBytes : Obligations.LockedBitsDeliverBytes := by
  intro bs
  induction bs with
  | nil => exact fun _ _ _ _ => rfl
  | cons b bs ih =>
    intro s hlocked hacc hcnt
    rw [List.flatMap_cons, feedBits_append, feedBits_bitsMsb b hlocked hacc hcnt]
    exact ih (rxAppend b s) hlocked hacc hcnt

/-! ## The preamble (R151, R176, R182) -/

/-- The preamble is `Config.preambleWord`, most-significant bit first (R151). -/
theorem txBits_nil : txBits [] = leadingBits Config.preambleWord 64 := by
  decide

theorem txBits_eq (txf : Bytes) : txBits txf = txBits [] ++ txf.flatMap bitsMsb := by
  rw [transmittedBits txf, transmittedBits [], List.flatMap_nil, List.append_nil]

theorem leadingBits_take {w : Nat} (v : BitVec w) {k n : Nat} (h : k ≤ n) :
    (leadingBits v n).take k = leadingBits v k := by
  rw [leadingBits, ← List.map_take, List.take_range, Nat.min_eq_left h]
  rfl

/-- Zero bits leave a seeking receiver with SYNC_SR = 0 as it is. -/
theorem feedBits_replicate_false (zeros : Nat) {s : State} (hseeking : s.syncLocked = false) (hsr : s.syncSr = 0) :
    feedBits (List.replicate zeros false) s = s := by
  have hbit : syncBit false s = s := by
    rw [syncBit_of_seeking hseeking (by rw [hsr]; decide), hsr]
    exact congrArg (fun sr => { s with syncSr := sr }) hsr.symm
  induction zeros with
  | zero => rfl
  | succ zeros ih => rwa [List.replicate_succ, feedBits, List.foldl_cons, hbit]

/-- A word that is not 0 is no proper shift of itself. -/
theorem shiftRight_ne_self {w j : Nat} {v : BitVec w} (hv : v ≠ 0) (hj : 0 < j) : v >>> j ≠ v := by
  intro h
  have hpos : 0 < v.toNat := Nat.pos_of_ne_zero fun h0 => hv (BitVec.eq_of_toNat_eq h0)
  have hlt : v.toNat >>> j < v.toNat := by
    rw [Nat.shiftRight_eq_div_pow]
    exact Nat.div_lt_self hpos (Nat.one_lt_two_pow hj.ne')
  rw [← BitVec.toNat_ushiftRight, h] at hlt
  exact Nat.lt_irrefl _ hlt

/-- `k` bits of the preamble, fewer than all, stand in SYNC_SR, and the receiver seeks on. -/
theorem feedBits_preamble_within {s : State} (hseeking : s.syncLocked = false) (hsr : s.syncSr = 0) {k : Nat}
    (hk : k < 64) :
    feedBits (leadingBits Config.preambleWord k) s = { s with syncSr := Config.preambleWord >>> (64 - k) } := by
  induction k with
  | zero =>
    have hshift : Config.preambleWord >>> 64 = 0 := BitVec.ushiftRight_eq_zero (Nat.le_refl 64)
    rw [hshift, ← hsr]
    rfl
  | succ k ih =>
    have hshift := shiftRight_shiftConcat Config.preambleWord (Nat.lt_of_succ_lt hk)
    have hne : Config.preambleWord >>> (64 - (k + 1)) ≠ Config.preambleWord :=
      shiftRight_ne_self (by decide) (Nat.sub_pos_of_lt hk)
    rw [leadingBits_succ, feedBits_concat, ih (Nat.lt_of_succ_lt hk)]
    refine Eq.trans (syncBit_of_seeking hseeking (hshift.trans_ne hne)) ?_
    exact congrArg (fun sr => { s with syncSr := sr }) hshift

theorem feedBits_preamble {s : State} (hseeking : s.syncLocked = false) (hsr : s.syncSr = 0) :
    feedBits (txBits []) s =
      { s with syncLocked := true, syncSr := Config.preambleWord, bpAcc := 0, bpCnt := 0 } := by
  have hlast : (Config.preambleWord >>> 1).shiftConcat (Config.preambleWord.getLsbD 0) = Config.preambleWord :=
    shiftRight_shiftConcat (k := 63) Config.preambleWord (by decide)
  rw [txBits_nil, leadingBits_succ, feedBits_concat, feedBits_preamble_within hseeking hsr (by decide)]
  refine Eq.trans (syncBit_of_preamble hseeking hlast) ?_
  exact congrArg (fun sr => { s with syncLocked := true, syncSr := sr, bpAcc := 0, bpCnt := 0 }) hlast

/-- Settles O49: SYNC_SR holds the preamble bits so far, and is the preamble's word at the last one only. -/
theorem lockAtLastPreambleBit : Obligations.LockAtLastPreambleBit := by
  intro zeros s hseeking hsr
  refine ⟨fun k hk => ?_, ?_⟩
  · rw [feedBits_append, feedBits_replicate_false zeros hseeking hsr, txBits_nil,
      leadingBits_take _ (Nat.le_of_lt hk), feedBits_preamble_within hseeking hsr hk]
    exact hseeking
  · rw [feedBits_append, feedBits_replicate_false zeros hseeking hsr, feedBits_preamble hseeking hsr]
    rfl

/-! ## A frame through the receiver, bit by bit (R182) -/

/-- RX_APPEND byte by byte on top of a remainder is one SCAN of the remainder and the bytes (R143). -/
theorem foldl_rxAppend (bs : Bytes) {s : State} (hrem : scan s.rxbuf = ([], s.rxbuf)) :
    bs.foldl (fun t b => rxAppend b t) s = { s with
      rxbuf := (scan (s.rxbuf ++ bs)).2, rxm := s.rxm ++ (scan (s.rxbuf ++ bs)).1
      rxmCount := s.rxmCount + BitVec.ofNat 32 (scan (s.rxbuf ++ bs)).1.length } := by
  induction bs generalizing s with
  | nil => simp [hrem]
  | cons b bs ih =>
    have hchunk := scan_append (s.rxbuf ++ [b]) bs
    rw [List.append_assoc, List.singleton_append] at hchunk
    rw [List.foldl_cons, ih (scan_remainder _), hchunk]
    simp [rxAppend, emitMessages, BitVec.ofNat_add, BitVec.add_assoc]

/-- The bytes of a frame emit its payload, into an empty RXBUF. -/
theorem foldl_rxAppend_frame {p : Bytes} (hp : p.length ≤ 65535) {s : State} (hempty : s.rxbuf = []) :
    (frame p).foldl (fun t b => rxAppend b t) s = { s with rxm := s.rxm ++ [p], rxmCount := s.rxmCount + 1 } := by
  rw [foldl_rxAppend _ (by rw [hempty, scan_nil]), hempty, List.nil_append, scan_frame hp, ← hempty]
  rfl

/-- Settles O50: the preamble locks the receiver at a byte boundary, and the frame's bits deliver its bytes. -/
theorem transmittedBitsRecoverPayload : Obligations.TransmittedBitsRecoverPayload := by
  intro zeros p s hp hseeking hsr hempty
  obtain ⟨-, hlock⟩ := lockAtLastPreambleBit zeros s hseeking hsr
  rw [txBits_eq, ← List.append_assoc, feedBits_append, hlock, lockedBitsDeliverBytes _ _ rfl rfl rfl]
  exact foldl_rxAppend_frame hp hempty

/-! ## One window (R174, R175) -/

/-- `s`, at a window's start, after `xs`, fewer than a window's samples (`feedSamples_within`). -/
def afterWindowSamples (num : NumOps NumVal) (s : State) (xs : List NumVal) : State :=
  { s with
    q10 := (goertzel num s.coeff0 xs).1, q20 := (goertzel num s.coeff0 xs).2
    q11 := (goertzel num s.coeff1 xs).1, q21 := (goertzel num s.coeff1 xs).2
    dmN := BitVec.ofNat 32 xs.length }

theorem feedSamples_append (num : NumOps NumVal) (xs ys : List NumVal) (s : State) :
    feedSamples num (xs ++ ys) s = feedSamples num ys (feedSamples num xs s) :=
  List.foldl_append

theorem goertzel_concat {α : Type} (num : NumOps α) (c : α) (xs : List α) (x : α) :
    goertzel num c (xs ++ [x]) =
      (gstep num c (goertzel num c xs).1 (goertzel num c xs).2 x, (goertzel num c xs).1) :=
  List.foldl_append

/-- Both detectors take the buffered window's next sample; DM_N is left to `takeSample`. -/
theorem detectorStep_afterWindowSamples (num : NumOps NumVal) (s : State) (xs : List NumVal) (x : NumVal) :
    detectorStep num x (afterWindowSamples num s xs) =
      { afterWindowSamples num s (xs ++ [x]) with dmN := BitVec.ofNat 32 xs.length } := by
  simp only [afterWindowSamples, goertzel_concat]
  rfl

theorem toNat_afterWindowSamples_dmN (num : NumOps NumVal) {s : State} {xs : List NumVal}
    (h : xs.length < s.sps.toNat) : (afterWindowSamples num s xs).dmN.toNat = xs.length :=
  Nat.mod_eq_of_lt (Nat.lt_trans h s.sps.isLt)

section
variable {num : NumOps NumVal} {s : State} (hstart : clearWindow num s = s)
include hstart

/-- From a window's start, fewer than SPS samples stay in the window. -/
theorem feedSamples_within {xs : List NumVal} (h : xs.length < s.sps.toNat) :
    feedSamples num xs s = afterWindowSamples num s xs := by
  induction xs using List.reverseRecOn with
  | nil => exact hstart.symm
  | append_singleton xs x ih =>
    rw [List.length_append, List.length_singleton] at h
    have hlt : xs.length < s.sps.toNat := Nat.lt_of_succ_lt h
    have hwithin : (afterWindowSamples num s xs).dmN.toNat + 1 < s.sps.toNat := by
      rwa [toNat_afterWindowSamples_dmN num hlt]
    rw [feedSamples_append, ih hlt]
    refine (takeSample_of_within num x hwithin).trans ?_
    rw [detectorStep_afterWindowSamples]
    simp [afterWindowSamples, BitVec.ofNat_add]

/-- From a window's start, SPS samples are the one bit of the buffered window, and the next window starts (R174). -/
theorem feedSamples_window {xs : List NumVal} (hne : xs ≠ []) (h : xs.length = s.sps.toNat) :
    feedSamples num xs s = syncBit (windowBit num s.coeff0 s.coeff1 xs) s := by
  obtain ⟨ys, y, rfl⟩ := (List.eq_nil_or_concat' xs).resolve_left hne
  rw [List.length_append, List.length_singleton] at h
  have hlt : ys.length < s.sps.toNat := by omega
  have hlast : s.sps.toNat ≤ (afterWindowSamples num s ys).dmN.toNat + 1 := by
    rw [toNat_afterWindowSamples_dmN num hlt, h]
  rw [feedSamples_append, feedSamples_within hstart hlt]
  refine (takeSample_of_last num y hlast).trans ?_
  rw [detectorStep_afterWindowSamples]
  exact congrArg _ hstart

end


/-- DM_SAMPLE on each of a list of data words is the feed of their samples, with an `ok` for each (R181). -/
theorem execAll_dmFeed (ds : List DWord) {s : State} (hvalid : s.cfgValid = true) :
    execAll (dmFeed ds) s = .next { feedSamples Config.num (ds.map Config.num.decode) s with
      out := s.out ++ List.replicate ds.length .ok } := by
  induction ds generalizing s with
  | nil => simp [dmFeed, execAll, feedSamples]
  | cons d ds ih =>
    have hvalid' : (appendOutcome .ok (takeSample Config.num (Config.num.decode d) s)).cfgValid = true :=
      (takeSample_cfgValid _ _ s).trans hvalid
    have hout := (commandEffect_takeSample Config.num (Config.num.decode d) s).out_eq
    rw [dmFeed, List.map_cons, execAll_cons_of_next _ _ _ _ (exec_dmSample_of_configured d hvalid), ← dmFeed,
      ih hvalid', feedSamples_appendOutcome, appendOutcome_out, hout,
      List.append_assoc, List.singleton_append, ← List.replicate_succ]
    rfl

/-- The hypotheses of R174 on the detectors and DM_N say that a window starts. -/
theorem clearWindow_eq_self {num : NumOps NumVal} {s : State} (hq10 : s.q10 = num.nzero) (hq20 : s.q20 = num.nzero)
    (hq11 : s.q11 = num.nzero) (hq21 : s.q21 = num.nzero) (hn : s.dmN = 0) : clearWindow num s = s := by
  obtain ⟨⟩ := s
  simp_all [clearWindow]

/-- Settles O47. -/
theorem windowEqualsBufferedWindow : Obligations.WindowEqualsBufferedWindow := by
  refine ⟨fun num xs s hq10 hq20 hq11 hq21 hn hne hlen => ?_, fun ds s hvalid => execAll_dmFeed ds hvalid⟩
  exact feedSamples_window (clearWindow_eq_self hq10 hq20 hq11 hq21 hn) hne hlen

/-! ## Windows one after another (R181, R182) -/

/-- SYNC_BIT leaves the window alone. -/
theorem clearWindow_syncBit (num : NumOps NumVal) (bit : Bool) (s : State) :
    clearWindow num (syncBit bit s) = syncBit bit (clearWindow num s) := by
  rw [syncBit_eq_withSync bit s]
  exact (syncBit_withSync bit (clearWindow num s) s).symm

theorem syncBit_coeffs_sps (bit : Bool) (s : State) :
    (syncBit bit s).coeff0 = s.coeff0 ∧ (syncBit bit s).coeff1 = s.coeff1 ∧ (syncBit bit s).sps = s.sps := by
  rw [syncBit_eq_withSync]
  exact ⟨rfl, rfl, rfl⟩

/-- From a window's start, whole windows are their bits to the synchronizer. -/
theorem feedSamples_flatten {num : NumOps NumVal} (windows : List (List NumVal)) {s : State}
    (hstart : clearWindow num s = s) (hsps : 1 ≤ s.sps.toNat) (hlen : ∀ w ∈ windows, w.length = s.sps.toNat) :
    feedSamples num windows.flatten s = feedBits (windows.map (windowBit num s.coeff0 s.coeff1)) s := by
  induction windows generalizing s with
  | nil => rfl
  | cons w windows ih =>
    obtain ⟨hw, hwindows⟩ := List.forall_mem_cons.mp hlen
    obtain ⟨hcoeff0, hcoeff1, hsps'⟩ := syncBit_coeffs_sps (windowBit num s.coeff0 s.coeff1 w) s
    have hstart' := (clearWindow_syncBit num (windowBit num s.coeff0 s.coeff1 w) s).trans (congrArg _ hstart)
    have hne : w ≠ [] := List.ne_nil_of_length_pos (hw ▸ hsps)
    rw [List.flatten_cons, feedSamples_append, feedSamples_window hstart hne hw,
      ih hstart' (hsps' ▸ hsps) (hsps' ▸ hwindows), hcoeff0, hcoeff1]
    rfl

theorem symbolSamples_length {α : Type} (num : NumOps α) (c : Cfg) (sps : Nat) (bit : Bool) :
    (symbolSamples num c sps bit).length = sps := by
  simp [symbolSamples]

/-- Settles O52: the windows are, bit by bit, zeros and then the transmission of O50. -/
theorem loopbackRecoversPayload : Obligations.LoopbackRecoversPayload := by
  intro num quiet p s hp hseeking hsr hempty hn hsps hq10 hq20 hq11 hq21 hsent hquiet
  have hstart := clearWindow_eq_self hq10 hq20 hq11 hq21 hn
  have hlen : ∀ w ∈ quiet ++ (txBits (frame p)).map (symbolSamples num s.act s.sps.toNat),
      w.length = s.sps.toNat := by
    intro w hw
    obtain hw | hw := List.mem_append.mp hw
    · exact (hquiet w hw).1
    · obtain ⟨bit, -, rfl⟩ := List.mem_map.mp hw
      exact symbolSamples_length ..
  have hzeros : quiet.map (windowBit num s.coeff0 s.coeff1) = List.replicate quiet.length false :=
    List.map_eq_replicate_iff.mpr fun w hw => (hquiet w hw).2
  have hbits : windowBit num s.coeff0 s.coeff1 ∘ symbolSamples num s.act s.sps.toNat = id := funext hsent
  rw [encodeSamples, List.flatMap_def, ← List.flatten_append, feedSamples_flatten _ hstart hsps hlen,
    List.map_append, List.map_map, hzeros, hbits, List.map_id]
  exact transmittedBitsRecoverPayload quiet.length p s hp hseeking hsr hempty

/-! ## The detectors under exact reals (R171, R172, R182)

A detector at the angle `θ` a sample, whose coefficient is `2 cos θ`, holds a phasor; it turns by `θ` with each sample
and takes the sample in, and the power is its squared length. So the power is that of the window's Fourier sum at `θ`,
and over whole periods such sums are geometric sums of roots of unity. -/

section
open Complex Finset

/-- The phasor of a detector's pair (q1, q2) at the angle `θ`. -/
noncomputable def phasor (θ : ℝ) (q : ℝ × ℝ) : ℂ := q.1 - exp (-(θ * I)) * q.2

section
variable (decode : DWord → ℝ) (encode : ℝ → DWord)

/-- The power is the squared length of the phasor (R172). -/
theorem power_eq_normSq_phasor (θ : ℝ) (q : ℝ × ℝ) :
    power (exactReal decode encode) (2 * Real.cos θ) q.1 q.2 = normSq (phasor θ q) := by
  have hphasor : phasor θ q = (q.1 - Real.cos θ * q.2 : ℝ) + (Real.sin θ * q.2 : ℝ) * I := by
    rw [phasor, ← neg_mul, ← ofReal_neg, exp_mul_I, ← ofReal_cos, ← ofReal_sin, Real.cos_neg, Real.sin_neg]
    push_cast
    ring
  rw [hphasor, normSq_add_mul_I]
  change q.1 * q.1 + q.2 * q.2 - 2 * Real.cos θ * q.1 * q.2 = _
  linear_combination (-q.2 ^ 2) * Real.sin_sq_add_cos_sq θ

/-- A detector's step turns its phasor and adds the sample (R171). -/
theorem phasor_gstep (θ x : ℝ) (q : ℝ × ℝ) :
    phasor θ (gstep (exactReal decode encode) (2 * Real.cos θ) q.1 q.2 x, q.1) = exp (θ * I) * phasor θ q + x := by
  have hcos : 2 * cos θ = exp (θ * I) + exp (-(θ * I)) := by rw [two_cos, neg_mul]
  have hinv : exp (θ * I) * exp (-(θ * I)) = 1 := by rw [← exp_add, add_neg_cancel, exp_zero]
  change ((2 * Real.cos θ * q.1 - q.2 + x : ℝ) : ℂ) - exp (-(θ * I)) * q.1 =
    exp (θ * I) * (q.1 - exp (-(θ * I)) * q.2) + x
  push_cast
  linear_combination q.1 * hcos + q.2 * hinv

/-- Turned once more, the phasor after a window is the Fourier sum of the samples, turned by the whole window. -/
theorem phasor_goertzel (θ : ℝ) (x : ℕ → ℝ) (n : ℕ) :
    exp (θ * I) * phasor θ (goertzel (exactReal decode encode) (2 * Real.cos θ) ((List.range n).map x)) =
      exp (θ * I) ^ n * ∑ k ∈ range n, x k * (exp (θ * I))⁻¹ ^ k := by
  induction n with
  | zero => simp [goertzel, phasor, exactReal]
  | succ n ih =>
    have hinv : exp (θ * I) ^ n * (exp (θ * I))⁻¹ ^ n = 1 := by
      rw [← mul_pow, mul_inv_cancel₀ (exp_ne_zero _), one_pow]
    rw [List.range_succ, List.map_append, List.map_singleton, goertzel_concat, phasor_gstep, ih, sum_range_succ]
    linear_combination (-(exp (θ * I)) * x n) * hinv

/-- The power of a window is the squared length of the Fourier sum of its samples. -/
theorem windowPower_eq_normSq_sum (θ : ℝ) (x : ℕ → ℝ) (n : ℕ) :
    windowPower (exactReal decode encode) (2 * Real.cos θ) ((List.range n).map x) =
      normSq (∑ k ∈ range n, x k * (exp (θ * I))⁻¹ ^ k) := by
  have hunit : normSq (exp (θ * I)) = 1 := by rw [normSq_eq_norm_sq, norm_exp_ofReal_mul_I, one_pow]
  have h := congrArg normSq (phasor_goertzel decode encode θ x n)
  rwa [map_mul, map_mul, map_pow, hunit, one_pow, one_mul, one_mul, ← power_eq_normSq_phasor decode encode] at h

end

/-! ## Tones at whole bins (R182) -/

/-- The `n`-th root of unity of the first bin. -/
noncomputable def binRoot (n : ℕ) : ℂ := exp (2 * Real.pi * I / n)

/-- Over a whole window a rotating phasor of `m` periods sums to 0, unless it does not turn. -/
theorem sum_binRoot_zpow {n : ℕ} (hn : n ≠ 0) (m : ℤ) :
    ∑ k ∈ range n, (binRoot n ^ m) ^ k = if (n : ℤ) ∣ m then (n : ℂ) else 0 := by
  have hroot : IsPrimitiveRoot (binRoot n) n := isPrimitiveRoot_exp n hn
  by_cases hdvd : (n : ℤ) ∣ m
  · simp [hdvd, (hroot.zpow_eq_one_iff_dvd m).mpr hdvd]
  · have hne : binRoot n ^ m ≠ 1 := fun h => hdvd ((hroot.zpow_eq_one_iff_dvd m).mp h)
    have hone : (binRoot n ^ m) ^ n = 1 := by
      rw [← zpow_natCast, zpow_comm, zpow_natCast, hroot.pow_eq_one, one_zpow]
    rw [if_neg hdvd, geom_sum_eq hne, hone, sub_self, zero_div]

/-- The turn of a sample at bin `j`. -/
theorem exp_bin (n j : ℕ) : exp ((2 * Real.pi * j / n : ℝ) * I) = binRoot n ^ j := by
  rw [binRoot, ← exp_nat_mul]
  congr 1
  push_cast
  ring

/-- A sampled tone at bin `k` is the difference of two rotating phasors. -/
theorem sin_bin (n k i : ℕ) :
    (Real.sin (2 * Real.pi * k * i / n) : ℂ) =
      ((binRoot n ^ (k : ℤ)) ^ i - (binRoot n ^ (-k : ℤ)) ^ i) * (-I / 2) := by
  have hangle : exp ((2 * Real.pi * k * i / n : ℝ) * I) = (binRoot n ^ k) ^ i := by
    rw [← exp_bin, ← exp_nat_mul]
    congr 1
    push_cast
    ring
  rw [ofReal_sin, sin, neg_mul, exp_neg, hangle, zpow_neg, zpow_natCast, inv_pow]
  ring

/-- The Fourier sum at bin `j` of a tone at bin `k`: the bins are orthogonal. -/
theorem sum_tone_binRoot {n j k : ℕ} (A : ℝ) (hj : 1 ≤ j) (hk : 1 ≤ k) (hjn : 2 * j < n) (hkn : 2 * k < n) :
    ∑ i ∈ range n, ((A * Real.sin (2 * Real.pi * k * i / n) : ℝ) : ℂ) * (binRoot n ^ j)⁻¹ ^ i =
      if k = j then A * n / 2 * -I else 0 := by
  have hn : n ≠ 0 := by omega
  have hroot : binRoot n ≠ 0 := exp_ne_zero _
  have hterm (i : ℕ) : ((A * Real.sin (2 * Real.pi * k * i / n) : ℝ) : ℂ) * (binRoot n ^ j)⁻¹ ^ i =
      A * (-I / 2) * ((binRoot n ^ (k - j : ℤ)) ^ i - (binRoot n ^ (-(k + j) : ℤ)) ^ i) := by
    rw [ofReal_mul, sin_bin, zpow_sub₀ hroot, neg_add, ← sub_eq_add_neg, zpow_sub₀ hroot, zpow_natCast, zpow_natCast,
      div_pow, div_pow, inv_pow]
    ring
  -- The second sum belongs to the mirror bin, which a tone below half the window cannot meet.
  have hmirror : ¬ (n : ℤ) ∣ -(k + j) := by
    rw [dvd_neg]
    exact fun h => absurd (Int.le_of_dvd (by omega) h) (by omega)
  have hdiff : (n : ℤ) ∣ k - j ↔ k = j := by
    refine ⟨fun h => ?_, fun h => by simp [h]⟩
    have := Int.eq_zero_of_abs_lt_dvd h (abs_lt.mpr ⟨by omega, by omega⟩)
    omega
  rw [sum_congr rfl fun i _ => hterm i, ← mul_sum, sum_sub_distrib, sum_binRoot_zpow hn, sum_binRoot_zpow hn,
    if_neg hmirror, sub_zero]
  simp only [hdiff]
  split <;> ring

/-- The tone `f` has `k` whole periods in a window of `n` samples, with `k` below `n / 2` (R182). -/
structure AtBin (sr f : Word) (n k : ℕ) : Prop where
  periods : f.toNat * n = k * sr.toNat
  pos : 1 ≤ k
  lt_half : 2 * k < n

/-- The angle of a sample, in turns. -/
theorem AtBin.angle {sr f : Word} {n k : ℕ} (h : AtBin sr f n k) (hsr : 1 ≤ sr.toNat) :
    (f.toNat / sr.toNat : ℝ) = k / n := by
  have hn : (n : ℝ) ≠ 0 := Nat.cast_ne_zero.mpr (Nat.ne_zero_of_lt h.lt_half)
  have hsr' : (sr.toNat : ℝ) ≠ 0 := Nat.cast_ne_zero.mpr (Nat.ne_zero_of_lt hsr)
  rw [div_eq_div_iff hsr' hn]
  exact_mod_cast h.periods

section
variable (decode : DWord → ℝ) (encode : ℝ → DWord)

theorem coeff_of_atBin {sr f : Word} {n k : ℕ} (h : AtBin sr f n k) (hsr : 1 ≤ sr.toNat) :
    (exactReal decode encode).coeff f sr = 2 * Real.cos (2 * Real.pi * k / n) := by
  change 2 * Real.cos (2 * Real.pi * f.toNat / sr.toNat) = _
  rw [mul_div_assoc, h.angle hsr, mul_div_assoc]

theorem symbolSamples_of_atBin {c : Cfg} {bit : Bool} {n k : ℕ} (h : AtBin c.sr (toneOf c bit) n k)
    (hsr : 1 ≤ c.sr.toNat) (hn : n < 2 ^ 32) :
    symbolSamples (exactReal decode encode) c n bit =
      (List.range n).map fun i : ℕ => (c.amp.toNat / 65536 : ℝ) * Real.sin (2 * Real.pi * k * i / n) := by
  refine List.map_congr_left fun i hi => ?_
  have hi' : (BitVec.ofNat 32 i).toNat = i := Nat.mod_eq_of_lt (Nat.lt_trans (List.mem_range.mp hi) hn)
  change _ * Real.sin (2 * Real.pi * (toneOf c bit).toNat * (BitVec.ofNat 32 i).toNat / c.sr.toNat) = _
  rw [hi', mul_right_comm, mul_div_assoc, h.angle hsr, mul_right_comm _ (k : ℝ), mul_div_assoc]

/-- R182's two powers: that of a window of a sent tone is `(AMP SPS / 131072) ^ 2` at its own bin and 0 at another. -/
theorem windowPower_of_atBin {c : Cfg} {f : Word} {bit : Bool} {n j k : ℕ} (hsr : 1 ≤ c.sr.toNat) (hn : n < 2 ^ 32)
    (hdetector : AtBin c.sr f n j) (htone : AtBin c.sr (toneOf c bit) n k) :
    windowPower (exactReal decode encode) ((exactReal decode encode).coeff f c.sr)
        (symbolSamples (exactReal decode encode) c n bit) =
      if k = j then (c.amp.toNat * n / 131072 : ℝ) ^ 2 else 0 := by
  rw [coeff_of_atBin decode encode hdetector hsr, symbolSamples_of_atBin decode encode htone hsr hn,
    windowPower_eq_normSq_sum, exp_bin,
    sum_tone_binRoot _ hdetector.pos htone.pos hdetector.lt_half htone.lt_half]
  split
  · have hreal : ((c.amp.toNat / 65536 : ℝ) : ℂ) * n / 2 = ((c.amp.toNat * n / 131072 : ℝ) : ℂ) := by
      push_cast
      ring
    rw [hreal, map_mul, normSq_ofReal, normSq_neg, normSq_I, mul_one, sq]
  · exact map_zero normSq

/-- The slicer's bit over the reals (R173). -/
theorem slice_exactReal (p0 p1 : ℝ) : slice (exactReal decode encode) p0 p1 = true ↔ p0 < p1 :=
  @decide_eq_true_iff (p0 < p1) (Classical.propDecidable _)

end

/-- Settles O51: the powers at the two bins, and the slicer between the sent power and 0. -/
theorem exactRealWindowsDecideRight : Obligations.ExactRealWindowsDecideRight := by
  intro decode encode c sps k0 k1 hsr hamp hsps hf0 hf1 hk0 hk1 hhalf0 hhalf1 hne num c0 c1 sent
  have h0 : AtBin c.sr c.f0 sps k0 := ⟨hf0, hk0, hhalf0⟩
  have h1 : AtBin c.sr c.f1 sps k1 := ⟨hf1, hk1, hhalf1⟩
  have hpower {f : Word} {bit : Bool} {j k : ℕ} (hdetector : AtBin c.sr f sps j)
      (htone : AtBin c.sr (toneOf c bit) sps k) :
      windowPower num (num.coeff f c.sr) (symbolSamples num c sps bit) = if k = j then sent else 0 :=
    windowPower_of_atBin decode encode hsr hsps hdetector htone
  have hzero_bin0 := (hpower (bit := false) h0 h0).trans (if_pos rfl)
  have hzero_bin1 := (hpower (bit := false) h1 h0).trans (if_neg hne)
  have hone_bin0 := (hpower (bit := true) h0 h1).trans (if_neg hne.symm)
  have hone_bin1 := (hpower (bit := true) h1 h1).trans (if_pos rfl)
  have hsent : 0 < sent := by
    have hamp' : (0 : ℝ) < c.amp.toNat := Nat.cast_pos.mpr hamp
    have hsps' : (0 : ℝ) < sps := Nat.cast_pos.mpr (Nat.zero_lt_of_lt hhalf0)
    positivity
  refine ⟨⟨hzero_bin0, hzero_bin1⟩, ⟨hone_bin0, hone_bin1⟩, fun bit => ?_⟩
  cases bit with
  | false =>
    rw [windowBit, hzero_bin0, hzero_bin1, Bool.eq_false_iff, ne_eq, slice_exactReal]
    exact hsent.not_gt
  | true =>
    rw [windowBit, hone_bin0, hone_bin1, slice_exactReal]
    exact hsent

end
end Sys2Proof.Machine

/-! # Proofs of the control statements (44_control): the housekeeping commands, CFG_COMMIT, the samples per symbol as
a rounded quotient, and who may change the active configuration. -/

namespace Sys2Proof.Machine

/-! ## The housekeeping commands (R200 to R202) -/

theorem exec_nop (s : State) : exec .nop s = .next { s with out := s.out ++ [.ok] } := rfl

theorem exec_statClr (s : State) :
    exec .statClr s = .next { s with err := 0, modDone := false, out := s.out ++ [.ok] } := rfl

theorem exec_cfgWr_of_cfgsWrite_eq_some {sel : Byte} {value : Word} {s : State} {c : Cfg}
    (h : cfgsWrite sel.toNat value s.cfgs = some c) :
    exec (.cfgWr sel value) s = .next { s with cfgs := c, out := s.out ++ [.ok] } := by
  simp only [exec, execCfgWr, h]
  rfl

theorem exec_cfgWr_of_badSelector {sel : Byte} (value : Word) (s : State) (h : 5 ≤ sel.toNat) :
    exec (.cfgWr sel value) s = raise .illegal s := by
  simp only [exec, execCfgWr, (cfgsWrite_none_iff sel.toNat value s.cfgs).mpr h]

/-- Settles O55: each selector of 0 to 4 names one staging register, and no other selector names any. -/
theorem housekeepingResults : Obligations.HousekeepingResults := by
  intro s sel value
  refine ⟨exec_nop s, exec_statClr s, ?sr, ?sym, ?f0, ?f1, ?amp, exec_cfgWr_of_badSelector value s⟩
  all_goals exact exec_cfgWr_of_cfgsWrite_eq_some rfl

/-! ## CFG_COMMIT (R204, R206) -/

/-- VALID, clause by clause (R204). -/
theorem cfgLegal_iff (c : Cfg) :
    cfgLegal c = true ↔
      1 ≤ c.sr.toNat ∧ 1 ≤ c.sym.toNat ∧ c.f0 ≠ c.f1 ∧ 1 ≤ spsOf c.sr c.sym ∧ c.amp.toNat ≤ 65536 := by
  simp only [cfgLegal, Bool.and_eq_true, decide_eq_true_eq, bne_iff_ne, and_assoc]

theorem exec_cfgCommit_of_legal {s : State} (h : cfgLegal s.cfgs = true) :
    exec .cfgCommit s = .next (appendOutcome .ok (activate Config.num s.cfgs s)) := if_pos h

theorem exec_cfgCommit_of_illegal {s : State} (h : ¬ cfgLegal s.cfgs = true) :
    exec .cfgCommit s = raise .invalidConfig s := if_neg h

/-- A CFG_COMMIT activates the staged tuple or raises INVALID_CONFIG. -/
theorem exec_cfgCommit_cases {s t : State} (h : exec .cfgCommit s = .next t) :
    t = appendOutcome .ok (activate Config.num s.cfgs s) ∨ t = raised .invalidConfig s := by
  by_cases hlegal : cfgLegal s.cfgs = true
  · exact .inl (Host.Outcome.next.inj (h.symm.trans (exec_cfgCommit_of_legal hlegal)))
  · exact .inr (Host.Outcome.next.inj (h.symm.trans (exec_cfgCommit_of_illegal hlegal)))

/-- Settles O56: the premise is VALID, and the state written out is the one `activate` leaves. -/
theorem cfgCommitResult : Obligations.CfgCommitResult := by
  intro s c sps valid
  have hvalid : cfgLegal c = true ↔ valid := cfgLegal_iff c
  exact ⟨fun h => exec_cfgCommit_of_legal (hvalid.mpr h), fun h => exec_cfgCommit_of_illegal (mt hvalid.mp h)⟩

/-! ## Samples per symbol (R205) -/

/-- Settles O57: the quotient plus one half is the fraction whose whole part SPSOF takes. -/
theorem spsIsRoundedQuotient : Obligations.SpsIsRoundedQuotient := by
  intro sr sym hsym
  have hne : (sym.toNat : ℚ) ≠ 0 := Nat.cast_ne_zero.mpr (Nat.ne_zero_of_lt hsym)
  have hfraction : (sr.toNat : ℚ) / sym.toNat + 1 / 2 =
      ((2 * sr.toNat + sym.toNat : ℕ) : ℚ) / ((2 * sym.toNat : ℕ) : ℚ) := by
    push_cast
    field_simp
  refine ⟨?_, Nat.lt_of_le_of_lt (spsOf_le sr sym hsym) sr.isLt⟩
  rw [hfraction, Rat.floor_natCast_div_natCast]
  rfl

/-! ## The active configuration (R207) -/

/-- `u` has the active configuration of `s`, what is computed from it, and CFG_VALID. -/
structure SameConfig (s u : State) : Prop where
  act_eq : u.act = s.act
  sps_eq : u.sps = s.sps
  coeff0_eq : u.coeff0 = s.coeff0
  coeff1_eq : u.coeff1 = s.coeff1
  cfgValid_eq : u.cfgValid = s.cfgValid

theorem sameConfig_advanceModulator (s : State) : SameConfig s (advanceModulator s) := by
  rw [advanceModulator_eq]
  exact ⟨rfl, rfl, rfl, rfl, rfl⟩

theorem sameConfig_takeSample (num : NumOps NumVal) (x : NumVal) (s : State) :
    SameConfig s (takeSample num x s) := by
  obtain ⟨-, heq⟩ | ⟨-, heq⟩ := takeSample_cases num x s <;> rw [heq]
  · exact ⟨rfl, rfl, rfl, rfl, rfl⟩
  · rw [syncBit_eq_withSync]
    exact ⟨rfl, rfl, rfl, rfl, rfl⟩

/-- Of the commands that complete, CFG_COMMIT alone writes the active configuration. -/
theorem Completes.config {i : Instr} {s u : State} (hu : Completes i s u) :
    SameConfig s u ∨ i = .cfgCommit ∧ u = activate Config.num s.cfgs s := by
  cases hu with
  | cfgCommit => exact .inr ⟨rfl, rfl⟩
  | modSample => exact .inl { sameConfig_advanceModulator _ with }
  | dmSample => exact .inl (sameConfig_takeSample _ _ _)
  | _ => exact .inl ⟨rfl, rfl, rfl, rfl, rfl⟩

/-- A command keeps the active configuration, or it is a CFG_COMMIT that succeeds. -/
theorem exec_config {i : Instr} {s t : State} (h : exec i s = .next t) :
    SameConfig s t ∨ i = .cfgCommit ∧ t = appendOutcome .ok (activate Config.num s.cfgs s) := by
  obtain ⟨e, rfl⟩ | ⟨u, hu, rfl⟩ := exec_next_cases h
  · exact .inl ⟨rfl, rfl, rfl, rfl, rfl⟩
  obtain hsame | ⟨hi, rfl⟩ := hu.config
  · exact .inl { hsame with }
  · exact .inr ⟨hi, rfl⟩

theorem exec_keeps_cfgValid {i : Instr} {s t : State} (h : exec i s = .next t) (hvalid : s.cfgValid = true) :
    t.cfgValid = true := by
  obtain hsame | ⟨-, rfl⟩ := exec_config h
  · exact hsame.cfgValid_eq.trans hvalid
  · rfl

/-- Without reset a step keeps CFG_VALID set (R207 (c)). -/
theorem step_keeps_cfgValid {s t : State} (h : step s = .next t) (hreset : s.resetIn = false)
    (hvalid : s.cfgValid = true) : t.cfgValid = true := by
  obtain ⟨hreset', -⟩ | ⟨-, -, rfl⟩ | ⟨i, rest, -, -, hexec⟩ | ⟨why, rest, -, -, rfl⟩ := step_cases h
  · exact absurd hreset' (Bool.eq_false_iff.mp hreset)
  · exact hvalid
  · exact exec_keeps_cfgValid hexec hvalid
  · exact hvalid

theorem raised_restore (e : ErrCode) (s : State) : { raised e s with err := s.err, out := s.out } = s := rfl

/-- Settles O58: (a) and (b) by the two ways CFG_COMMIT ends, (c) by the cases of a step, and (d) since no other
command writes the active configuration. -/
theorem configurationLaws : Obligations.ConfigurationLaws := by
  refine ⟨fun s t u hcommit hok hclear => ?success, fun s t hcommit hfail => ?failure,
    fun s t => step_keeps_cfgValid, fun i s t hexec hchange => ?change⟩
  case success =>
    obtain rfl : appendOutcome .ok (clearReceiver Config.num s) = u :=
      Host.Outcome.next.inj ((exec_dmReset s).symm.trans hclear)
    obtain rfl | rfl := exec_cfgCommit_cases hcommit
    · and_intros <;> rfl
    · simp at hok
  case failure =>
    obtain rfl | rfl := exec_cfgCommit_cases hcommit
    · exact absurd rfl hfail
    · exact ⟨raised_restore _ s, fun herr => if_neg herr⟩
  case change =>
    obtain ⟨hact, hsps, hcoeff0, hcoeff1, -⟩ | ⟨hi, rfl⟩ := exec_config hexec
    · simp [hact, hsps, hcoeff0, hcoeff1] at hchange
    · exact ⟨hi, rfl, rfl, rfl⟩

end Sys2Proof.Machine

/-! # Proofs of the exceptions statements (60_exceptions): every step answers, one outcome a command, what an erroring
command leaves, and exactly which command raises which error. -/

namespace Sys2Proof.Machine

/-! ## Every step answers (R241) -/

/-- Settles O9: a reset, a wait and an illegal command answer by their equations, a legal command by `exec_next`. -/
theorem everyStepAdvances : Obligations.EveryStepAdvances := by
  intro s
  cases hreset : s.resetIn with
  | true => exact ⟨_, step_of_reset s hreset⟩
  | false =>
    match hport : decodePort s.port with
    | none => exact ⟨s, step_of_waiting s hreset hport⟩
    | some (.illegal why, rest) => exact ⟨_, step_of_illegal s why rest hreset hport⟩
    | some (.cmd i, rest) =>
      obtain ⟨t, hexec, -⟩ := exec_next i (setPort rest s)
      exact ⟨t, (step_of_command s i rest hreset hport).trans hexec⟩

/-! ## One outcome for a command (R220) -/

/-- A command's next state keeps the port and has one outcome more in OUT. -/
theorem exec_appends_outcome (i : Instr) (s : State) :
    ∃ t o, exec i s = .next t ∧ t.port = s.port ∧ t.out = s.out ++ [o] := by
  obtain ⟨e, hexec⟩ | ⟨u, heff, hexec⟩ := exec_cases i s
  · exact ⟨raised e s, .err e, hexec, raised_port e s, raised_out e s⟩
  · exact ⟨appendOutcome .ok u, .ok, hexec, heff.port_eq, by rw [appendOutcome_out, heff.out_eq]⟩

/-- Settles O10: an illegal command is raised, a legal one executed, each over the words behind it. -/
theorem oneOutcomePerCommand : Obligations.OneOutcomePerCommand := by
  intro s r rest hreset hport
  cases r with
  | illegal why => exact ⟨_, .err .illegal, step_of_illegal s why rest hreset hport, rfl, rfl⟩
  | cmd i =>
    rw [step_of_command s i rest hreset hport]
    exact exec_appends_outcome i (setPort rest s)

/-! ## What an erroring command leaves (R222, R233) -/

/-- A command whose outcome is `err(e)` has raised `e`: a completing one has the outcome `ok`. -/
theorem eq_raised_of_outcome_err {i : Instr} {s t : State} {e : ErrCode} (hexec : exec i s = .next t)
    (hout : t.out = s.out ++ [.err e]) : t = raised e s := by
  obtain ⟨e', heq⟩ | ⟨u, heff, heq⟩ := exec_cases i s <;> rw [heq] at hexec
  · obtain rfl := (raise_eq_next e' s t).mp hexec
    obtain rfl : e' = e := by simpa using hout
    rfl
  · obtain rfl := (complete_eq_next u t).mp hexec
    simp [heff.out_eq] at hout

/-- Settles O11: `raised` writes ERR and OUT alone. -/
theorem errorChangesOnlyErr : Obligations.ErrorChangesOnlyErr := fun _ _ _ _ => eq_raised_of_outcome_err

/-! ## Which command raises which error (R221, R230)

`Raises` lists the checks that fail as `Completes` lists the checks that pass. Every command fails one or passes all,
and either way its `exec` is known, so the list is exact. -/

/-- `Raises i s e`: command `i` in `s` fails the check that names `e`, and no check before it (R230). -/
inductive Raises : Instr → State → ErrCode → Prop where
  | txfClearBusy {s : State} (hbusy : s.modActive = true) : Raises .txfClear s .busy
  | txfPushBusy (b : Byte) {s : State} (hbusy : s.modActive = true) : Raises (.txfPush b) s .busy
  | txfPushFull (b : Byte) {s : State} (hidle : s.modActive = false) (hfull : s.txf.length = Config.txfCap) :
      Raises (.txfPush b) s .txOverflow
  | txFrameBusy {s : State} (hbusy : s.modActive = true) : Raises .txFrame s .busy
  | txFrameLarge {s : State} (hidle : s.modActive = false) (hlarge : s.txpOvf = true) :
      Raises .txFrame s .payloadTooLarge
  | txFrameFull {s : State} (hidle : s.modActive = false) (hpayload : s.txpOvf = false)
      (hover : Config.txfCap < s.txf.length + s.txp.length + 5) : Raises .txFrame s .txOverflow
  | modStart {s : State} (hinvalid : s.cfgValid = false) : Raises .modStart s .invalidConfig
  | modSample {s : State} (hidle : s.modActive = false) : Raises .modSample s .modIdle
  | cfgCommit {s : State} (hillegal : cfgLegal s.cfgs = false) : Raises .cfgCommit s .invalidConfig
  | cfgWr {sel : Byte} (value : Word) (s : State) (hsel : 5 ≤ sel.toNat) : Raises (.cfgWr sel value) s .illegal
  | dmSample (d : DWord) {s : State} (hinvalid : s.cfgValid = false) : Raises (.dmSample d) s .invalidConfig

/-- Ties `Raises` to the model. -/
theorem Raises.exec_eq {i : Instr} {s : State} {e : ErrCode} (h : Raises i s e) : exec i s = raise e s := by
  cases h with
  | txfClearBusy hbusy => exact exec_txfClear_of_active hbusy
  | txfPushBusy b hbusy => exact exec_txfPush_of_active b hbusy
  | txfPushFull b hidle hfull => rw [exec_txfPush_of_idle b hidle, if_pos hfull]
  | txFrameBusy hbusy => exact exec_txFrame_of_active hbusy
  | txFrameLarge hidle hlarge => rw [exec_txFrame_of_idle hidle, if_pos hlarge]
  | txFrameFull hidle hpayload hover =>
    rw [exec_txFrame_of_idle hidle, if_neg (Bool.eq_false_iff.mp hpayload), if_pos hover]
  | modStart hinvalid => exact exec_modStart_of_unconfigured hinvalid
  | modSample hidle => exact exec_modSample_of_idle hidle
  | cfgCommit hillegal => exact exec_cfgCommit_of_illegal (Bool.eq_false_iff.mp hillegal)
  | cfgWr value _ hsel => exact exec_cfgWr_of_badSelector value s hsel
  | dmSample d hinvalid => exact exec_dmSample_of_unconfigured d hinvalid

theorem Completes.exec_eq {i : Instr} {s u : State} (h : Completes i s u) : exec i s = complete u := by
  cases h with
  | nop | crcInit | crcByte | crcCheck | statClr | txpClear | modStop | dmReset | rxByte => rfl
  | txpPushFull b hfull => exact exec_txpPush_of_full b hfull
  | txpPush b hroom => exact exec_txpPush_of_room b hroom
  | txfClear hidle => exact exec_txfClear_of_idle hidle
  | txfPush b hidle hroom => exact (exec_txfPush_of_idle b hidle).trans (if_neg hroom)
  | txFrame hidle hpayload hroom =>
    rw [frame_length, ← Nat.add_assoc] at hroom
    rw [exec_txFrame_of_idle hidle, if_neg (Bool.eq_false_iff.mp hpayload), if_neg (Nat.not_lt.mpr hroom)]
    rfl
  | modStart hvalid => exact exec_modStart_of_configured hvalid
  | modSample hactive => exact if_pos hactive
  | cfgCommit hlegal => exact exec_cfgCommit_of_legal hlegal
  | cfgWr sel value hwrite => exact exec_cfgWr_of_cfgsWrite_eq_some hwrite
  | dmSample d hvalid => exact exec_dmSample_of_configured d hvalid

/-- The body of a completing command leaves OUT to the outcome. -/
theorem Completes.out_eq {i : Instr} {s u : State} (h : Completes i s u) : u.out = s.out := by
  cases h with
  | modSample => exact (commandEffect_advanceModulator _).out_eq
  | dmSample => exact (commandEffect_takeSample _ _ _).out_eq
  | _ => rfl

/-- Every command fails a listed check or passes all of its checks. -/
theorem raises_or_completes (i : Instr) (s : State) : (∃ e, Raises i s e) ∨ ∃ u, Completes i s u := by
  cases i with
  | nop | crcInit | crcByte | crcCheck | statClr | txpClear | modStop | dmReset | rxByte =>
    exact .inr ⟨_, by constructor⟩
  | txpPush b =>
    by_cases hfull : s.txp.length = Config.txpCap
    · exact .inr ⟨_, .txpPushFull b hfull⟩
    · exact .inr ⟨_, .txpPush b hfull⟩
  | txfClear =>
    cases hactive : s.modActive with
    | true => exact .inl ⟨_, .txfClearBusy hactive⟩
    | false => exact .inr ⟨_, .txfClear hactive⟩
  | txfPush b =>
    cases hactive : s.modActive with
    | true => exact .inl ⟨_, .txfPushBusy b hactive⟩
    | false =>
      by_cases hfull : s.txf.length = Config.txfCap
      · exact .inl ⟨_, .txfPushFull b hactive hfull⟩
      · exact .inr ⟨_, .txfPush b hactive hfull⟩
  | txFrame =>
    cases hactive : s.modActive with
    | true => exact .inl ⟨_, .txFrameBusy hactive⟩
    | false =>
      cases hovf : s.txpOvf with
      | true => exact .inl ⟨_, .txFrameLarge hactive hovf⟩
      | false =>
        by_cases hover : Config.txfCap < s.txf.length + s.txp.length + 5
        · exact .inl ⟨_, .txFrameFull hactive hovf hover⟩
        · exact .inr ⟨_, .txFrame hactive hovf (by rw [frame_length]; omega)⟩
  | modStart =>
    cases hvalid : s.cfgValid with
    | true => exact .inr ⟨_, .modStart hvalid⟩
    | false => exact .inl ⟨_, .modStart hvalid⟩
  | modSample =>
    cases hactive : s.modActive with
    | true => exact .inr ⟨_, .modSample hactive⟩
    | false => exact .inl ⟨_, .modSample hactive⟩
  | cfgCommit =>
    cases hlegal : cfgLegal s.cfgs with
    | true => exact .inr ⟨_, .cfgCommit hlegal⟩
    | false => exact .inl ⟨_, .cfgCommit hlegal⟩
  | cfgWr sel value =>
    cases hwrite : cfgsWrite sel.toNat value s.cfgs with
    | none => exact .inl ⟨_, .cfgWr value s ((cfgsWrite_none_iff _ _ _).mp hwrite)⟩
    | some c => exact .inr ⟨_, .cfgWr sel value hwrite⟩
  | dmSample d =>
    cases hvalid : s.cfgValid with
    | true => exact .inr ⟨_, .dmSample d hvalid⟩
    | false => exact .inl ⟨_, .dmSample d hvalid⟩

/-- A command raises the error of the check it fails, and no other. -/
theorem exec_eq_raise_iff (i : Instr) (s : State) (e : ErrCode) : exec i s = raise e s ↔ Raises i s e := by
  refine ⟨fun hexec => ?_, Raises.exec_eq⟩
  obtain ⟨e', hraises⟩ | ⟨u, hcompletes⟩ := raises_or_completes i s
  · rwa [raise_injective e e' s (hexec.symm.trans hraises.exec_eq)]
  · exact absurd (hcompletes.exec_eq.symm.trans hexec) (complete_ne_raise e s u hcompletes.out_eq)

section
variable {i : Instr} {s : State}

/-- No well-formed command is ILLEGAL: CFG_WR's selector is its one check for that. -/
theorem not_raises_illegal (hwf : i.wf = true) : ¬ Raises i s .illegal := by
  intro h
  cases h with
  | @cfgWr sel value _ hsel =>
    have hlegal : sel.toNat ≤ 4 := of_decide_eq_true hwf
    omega

theorem raises_payloadTooLarge_iff :
    Raises i s .payloadTooLarge ↔ i = .txFrame ∧ s.modActive = false ∧ s.txpOvf = true := by
  constructor
  · intro h
    cases h with
    | txFrameLarge hidle hlarge => exact ⟨rfl, hidle, hlarge⟩
  · rintro ⟨rfl, hidle, hlarge⟩
    exact .txFrameLarge hidle hlarge

theorem raises_invalidConfig_iff :
    Raises i s .invalidConfig ↔
      (i = .cfgCommit ∧ cfgLegal s.cfgs = false) ∨ ((i = .modStart ∨ ∃ d, i = .dmSample d) ∧ s.cfgValid = false) := by
  constructor
  · intro h
    cases h with
    | cfgCommit hillegal => exact .inl ⟨rfl, hillegal⟩
    | modStart hinvalid => exact .inr ⟨.inl rfl, hinvalid⟩
    | dmSample d hinvalid => exact .inr ⟨.inr ⟨d, rfl⟩, hinvalid⟩
  · rintro (⟨rfl, hillegal⟩ | ⟨rfl | ⟨d, rfl⟩, hinvalid⟩)
    · exact .cfgCommit hillegal
    · exact .modStart hinvalid
    · exact .dmSample d hinvalid

theorem raises_txOverflow_iff :
    Raises i s .txOverflow ↔
      s.modActive = false
        ∧ ((∃ b, i = .txfPush b ∧ s.txf.length = Config.txfCap)
          ∨ (i = .txFrame ∧ s.txpOvf = false ∧ Config.txfCap < s.txf.length + s.txp.length + 5)) := by
  constructor
  · intro h
    cases h with
    | txfPushFull b hidle hfull => exact ⟨hidle, .inl ⟨b, rfl, hfull⟩⟩
    | txFrameFull hidle hpayload hover => exact ⟨hidle, .inr ⟨rfl, hpayload, hover⟩⟩
  · rintro ⟨hidle, ⟨b, rfl, hfull⟩ | ⟨rfl, hpayload, hover⟩⟩
    · exact .txfPushFull b hidle hfull
    · exact .txFrameFull hidle hpayload hover

theorem raises_busy_iff :
    Raises i s .busy ↔ (i = .txfClear ∨ (∃ b, i = .txfPush b) ∨ i = .txFrame) ∧ s.modActive = true := by
  constructor
  · intro h
    cases h with
    | txfClearBusy hbusy => exact ⟨.inl rfl, hbusy⟩
    | txfPushBusy b hbusy => exact ⟨.inr (.inl ⟨b, rfl⟩), hbusy⟩
    | txFrameBusy hbusy => exact ⟨.inr (.inr rfl), hbusy⟩
  · rintro ⟨rfl | ⟨b, rfl⟩ | rfl, hbusy⟩
    · exact .txfClearBusy hbusy
    · exact .txfPushBusy b hbusy
    · exact .txFrameBusy hbusy

theorem raises_modIdle_iff : Raises i s .modIdle ↔ i = .modSample ∧ s.modActive = false := by
  constructor
  · intro h
    cases h with
    | modSample hidle => exact ⟨rfl, hidle⟩
  · rintro ⟨rfl, hidle⟩
    exact .modSample hidle

end

/-- Settles O12: the codes are those of `ErrCode.code`, and each error is raised where `Raises` lists it. -/
theorem errorsAreRaisedAsListed : Obligations.ErrorsAreRaisedAsListed := by
  refine ⟨⟨rfl, rfl, rfl, rfl, rfl, rfl⟩, fun i s e hwf => (exec_eq_raise_iff i s e).trans ?_⟩
  cases e with
  | illegal => exact iff_false_intro (not_raises_illegal hwf)
  | payloadTooLarge => exact raises_payloadTooLarge_iff
  | invalidConfig => exact raises_invalidConfig_iff
  | txOverflow => exact raises_txOverflow_iff
  | busy => exact raises_busy_iff
  | modIdle => exact raises_modIdle_iff

end Sys2Proof.Machine

/-! # The reset input (70_reset_and_hazards R250)

`step_of_reset` says that an asserted reset input is the whole of a step; what is left is the state it answers. -/

namespace Sys2Proof.Machine

/-- R250: the whole state after a hardware reset, the kept fields named. -/
theorem hardwareReset_eq (s : State) :
    hardwareReset s = { State.reset with port := s.port, txs := s.txs, rxm := s.rxm, out := s.out } := rfl

/-- Settles O17: the port's words play no part in the step, which is the hardware reset. -/
theorem hardwareResetKeepsOutputs : Obligations.HardwareResetKeepsOutputs := by
  intro s hreset
  rw [step_of_reset s hreset, hardwareReset_eq]

end Sys2Proof.Machine
